-- ==== Sys2Proof/Word.lean ====
section
/-! DEFINITION. Words: the bit vectors the manual treats as bits, and the 64 data lanes of a link channel (11.10). -/

namespace Sys2Proof

/-- One byte. -/
abbrev Byte := BitVec 8

/-- A byte address of the memory link: 40 bits (00, section 4). -/
abbrev Addr := BitVec 40

/-- A timebase value, or an interval's start value: 32 bits, in microseconds (R187, R188). -/
abbrev Time := BitVec 32

/-- The data lanes of a link channel: 64 bytes wide (11.10). Lane `l` is element `l`. -/
abbrev Lanes := Vector Byte 64

end Sys2Proof
end

