-- ==== Sys2Proof/Syntax.lean ====
section
/-! DEFINITION. The commands: one constructor per row of spec/opcode_table.json. The table gives a row no operands;
they are read from the rules each constructor names (log 6). -/

namespace Sys2Proof

/-- The kind of a link request (1.1). Its level on IGQ_KIND and EGQ_KIND is `LinkKind.level` (R201). -/
inductive LinkKind where
  | read
  | write
deriving DecidableEq, Repr

/-- The status of a link response (1.1). Its level on IGR_STATUS and EGR_STATUS is `LinkStatus.level` (R201). -/
inductive LinkStatus where
  | ok
  | error
deriving DecidableEq, Repr

/-- A select period that carries no command: a response read, and the two that are no transaction (R173; log 7). -/
inductive ReadPeriod where
  /-- A response read: the byte 0x00, and then `mdi`, of which only the length matters (R177). -/
  | read (mdi : List Bool)
  /-- A select period in which no byte is complete: fewer than eight bits arrive. -/
  | short (mdi : List Bool)
  /-- MCS# fell before or in the reset that holds the part, and is low; the next row of the port is its rise, in the
  reset or after it. -/
  | begun
deriving DecidableEq, Repr

/-- What can happen to the part: one row of spec/opcode_table.json each, whole and indivisible (95). -/
inductive Instr where
  /-- INGRESS_REQUEST (R2, R5, R200): a request stands on the ingress request channel at an edge, with IGQ_KIND,
  IGQ_ADDR, IGQ_SIZE, IGQ_DATA and IGQ_BE as given. -/
  | ingressRequest (kind : LinkKind) (addr : Addr) (size : BitVec 7) (data : Lanes) (be : BitVec 64)
  /-- HOLD_TIMER_EXPIRY (R16, R52). -/
  | holdTimerExpiry
  /-- IDLE_EXPIRY (R53): of the OPEN context with this key. -/
  | idleExpiry (window : Fin 16) (slot : Nat)
  /-- COMMIT_ENTRY (R103): the arbiter grants the commit candidate. -/
  | commitEntry
  /-- INGRESS_ENTRY (R122): the arbiter grants the offered request. -/
  | ingressEntry
  /-- ISSUE (R124): an LCLK edge of the egress request channel, with EGQ_READY at this level (R201). -/
  | issue (ready : Bool)
  /-- EGRESS_RESPONSE (R128): memory delivers a response, EGR_STATUS and EGR_DATA. -/
  | egressResponse (status : LinkStatus) (data : Lanes)
  /-- RESPONSE_TIMEOUT (R130). -/
  | responseTimeout
  /-- DELIVER_RESPONSE (R13). -/
  | deliverResponse
  /-- DRAIN_TIMER_EXPIRY (R145). -/
  | drainTimerExpiry
  /-- IDENT (R179), code 0x01. Of every command row the operand is what the supervisor clocks in on MDI after the code
  byte, up to the rise of MCS# (R172, R175). -/
  | ident (mdi : List Bool)
  /-- READ_TIME (R187), code 0x02. -/
  | readTime (mdi : List Bool)
  /-- STAGE (R138), code 0x10. -/
  | stage (mdi : List Bool)
  /-- WITHDRAW (R154), code 0x11. -/
  | withdraw (mdi : List Bool)
  /-- FLUSH (R57), code 0x12. -/
  | flush (mdi : List Bool)
  /-- QUERY_WINDOW (R181), code 0x13. -/
  | queryWindow (mdi : List Bool)
  /-- QUERY_POOL (R184), code 0x14. -/
  | queryPool (mdi : List Bool)
  /-- SET_CORRECTION (R79), code 0x20. -/
  | setCorrection (mdi : List Bool)
  /-- SET_MONITOR (R94), code 0x21. -/
  | setMonitor (mdi : List Bool)
  /-- RELEASE_MONITOR (R95), code 0x22. -/
  | releaseMonitor (mdi : List Bool)
  /-- POP_EVENT (R162), code 0x30. -/
  | popEvent (mdi : List Bool)
  /-- EVENT_STATUS (R166), code 0x31. -/
  | eventStatus (mdi : List Bool)
  /-- SET_TIMERS (R189), code 0x40. -/
  | setTimers (mdi : List Bool)
  /-- ENGINE_RESET (R185), code 0x41. -/
  | engineReset (mdi : List Bool)
  /-- UNKNOWN_COMMAND (R175): a command frame, first byte `code`, that the first three lines of R175 refuse. -/
  | unknownCommand (code : Byte) (mdi : List Bool)
  /-- RESPONSE_READ (R173, R177), with the select periods that are no transaction. -/
  | responseRead (period : ReadPeriod)
  /-- TIMEBASE_TICK (R187): 25 REFCLK periods have passed. -/
  | timebaseTick
  /-- POWER_ON_RESET (R199): the supplies are in range and REFCLK has then run for `refclk` periods. -/
  | powerOnReset (refclk : Nat)
  /-- RST_ASSERT (R198, R199): RST# has been held low for `low` REFCLK periods. -/
  | rstAssert (low : Nat)
  /-- RESET_RELEASE (R197). -/
  | resetRelease
deriving DecidableEq, Repr

end Sys2Proof
end

