-- ==== Sys2Proof/Config.lean ====
section
/-! DEFINITION. Configuration: what the part fixes for good (its identity and capacities, R179) and the free values,
which have no body: a claim that holds, holds whatever they are. -/

namespace Sys2Proof.Config

/-- The part code IDENT reports (R179). -/
def partCode : Nat := 0x24D1
/-- The revision IDENT reports (R179). -/
def revision : Nat := 1
/-- Number of windows (R19). -/
def windows : Nat := 16
/-- Number of accumulation contexts (R38). -/
def contexts : Nat := 64
/-- Number of Slot Status records (R100). -/
def slotRecords : Nat := 1024
/-- Number of correction entries (R67). -/
def corrections : Nat := 8
/-- Number of limit monitors (R83). -/
def monitors : Nat := 4
/-- Capacity of the Stage Queue (R137). -/
def stageQueue : Nat := 4
/-- Capacity of the Egress Queue, and the bound of the issue law (R119, R126). -/
def egressQueue : Nat := 16
/-- Capacity of the Response Order List (R3). -/
def rolEntries : Nat := 16
/-- Capacity of the Event Queue (R160). -/
def eventQueue : Nat := 32
/-- The largest argument length of a command frame (R175, R179). -/
def maxArgs : Nat := 40
/-- REFCLK periods in one microsecond (R187). -/
def refclkPerTick : Nat := 25
/-- REFCLK periods a power-on reset runs once the supplies are in range (R199). -/
def powerOnPeriods : Nat := 1024
/-- REFCLK periods RST# is low before it is surely taken (R199). -/
def rstPeriods : Nat := 10

/-- Free value (log 11): whether a RST# pulse shorter than 10 REFCLK periods has the full effect of RST#.
R199: "which of the two is not specified". Applied to `State.freeIdx`. -/
opaque shortRstTaken : Nat → Bool

/-- Free value (log 10): when a commit entry is itself unreachable and reaches its issue point in the event of its own
grant (R125), how many KEEP tests of the heads that follow (R105) come before it. R113 gives either order for each head
tested, so the issue point may stand before the run, after it, or between any two tests of it. Applied to
`State.freeIdx`. -/
opaque keepTestsFirst : Nat → Nat

end Sys2Proof.Config
end

