-- ==== Sys2Proof/Machine/Tables.lean ====
section
/-! DEFINITION. Helpers over fixed tables, whole-table updates the kernel can evaluate, and little-endian bytes. -/

namespace Sys2Proof.Machine

/-- A table from a function of the index. -/
def tabulate {α : Type} (n : Nat) (f : Nat → α) : Vector α n := ⟨⟨(List.range n).map f⟩, by simp⟩

/-- `f` applied to every element. -/
def mapV {α β : Type} {n : Nat} (f : α → β) (v : Vector α n) : Vector β n := ⟨⟨v.toList.map f⟩, by simp⟩

/-- `f` applied to every element with its index. -/
def mapIdxV {α β : Type} {n : Nat} (f : Nat → α → β) (v : Vector α n) : Vector β n :=
  ⟨⟨v.toList.zipIdx.map (fun p => f p.2 p.1)⟩, by simp⟩

/-- The `w` bytes of `n`, least significant first (00, section 6). -/
def leBytes (n w : Nat) : List Byte := (List.range w).map (fun i => BitVec.ofNat 8 (n >>> (8 * i)))

/-- The number that bytes spell, least significant first (00, section 6). -/
def leNat : List Byte → Nat
  | [] => 0
  | b :: bs => b.toNat + 256 * leNat bs

/-- Byte `i` of an argument. -/
def byteAt (a : List Byte) (i : Nat) : Byte := a.getD i 0

/-- The little-endian field of `w` bytes at offset `i` of an argument. -/
def fieldAt (a : List Byte) (i w : Nat) : Nat := leNat ((a.drop i).take w)

end Sys2Proof.Machine
end

