-- ==== Sys2Proof/Machine/Frame.lean ====
section
/-! DEFINITION. The management frame on the wire: bits and bytes (R172), the CRC-8 (R176), and the judgement of a
frame (R175) over the code table of R191. -/

namespace Sys2Proof.Machine

/-- The byte that eight bits make, most significant bit first (R172). -/
def byteOfBits (bits : List Bool) : Byte := bits.foldl (fun b x => (b <<< 1) ||| (if x then 1 else 0)) 0

/-- The bits of a byte as they travel, most significant bit first (R172). -/
def bitsOfByte (b : Byte) : List Bool :=
  [b.getLsbD 7, b.getLsbD 6, b.getLsbD 5, b.getLsbD 4, b.getLsbD 3, b.getLsbD 2, b.getLsbD 1, b.getLsbD 0]

/-- Bytes as they travel on MDI or MDO. -/
def wire (bytes : List Byte) : List Bool := bytes.flatMap bitsOfByte

/-- The complete bytes of a run of bits; bits after the last complete byte are discarded (R172). -/
def completeBytes : List Bool → List Byte
  | b7 :: b6 :: b5 :: b4 :: b3 :: b2 :: b1 :: b0 :: rest =>
    byteOfBits [b7, b6, b5, b4, b3, b2, b1, b0] :: completeBytes rest
  | _ => []

/-- One division step of the CRC-8 by x^8 + x^2 + x + 1 (R176). -/
def crcShift (c : Byte) : Byte := if c.msb then (c <<< 1) ^^^ 0x07 else c <<< 1

/-- Takes one byte into the CRC, most significant bit first (R176). -/
def crcByte (c b : Byte) : Byte :=
  crcShift (crcShift (crcShift (crcShift (crcShift (crcShift (crcShift (crcShift (c ^^^ b))))))))

/-- The CRC-8 of bytes in the order they are sent, initial value 0 (R176). -/
def crc8 (bytes : List Byte) : Byte := bytes.foldl crcByte 0

/-- The argument length of each of the fourteen command codes; none for any other code (R191). -/
def argLength (code : Byte) : Option Nat :=
  if code = 0x01 then some 0
  else if code = 0x02 then some 0
  else if code = 0x10 then some 21
  else if code = 0x11 then some 1
  else if code = 0x12 then some 1
  else if code = 0x13 then some 1
  else if code = 0x14 then some 0
  else if code = 0x20 then some 9
  else if code = 0x21 then some 13
  else if code = 0x22 then some 1
  else if code = 0x30 then some 0
  else if code = 0x31 then some 0
  else if code = 0x40 then some 7
  else if code = 0x41 then some 0
  else none

/-- What MP makes of a frame: one of the four refusals of R175, or execution with these arguments. -/
inductive Verdict where
  | badFrame
  | badCrc
  | badCmd
  | badArg
  | run (args : List Byte)
deriving DecidableEq, Repr

/-- R175: the first line of its table that holds for the complete bytes of a command transaction. -/
def judge (frame : List Byte) : Verdict :=
  match frame with
  | code :: len :: rest =>
    if Config.maxArgs < len.toNat ∨ rest.length < len.toNat + 1 then .badFrame
    else if rest.getD len.toNat 0 ≠ crc8 (code :: len :: rest.take len.toNat) then .badCrc
    else
      match argLength code with
      | none => .badCmd
      | some n => if len.toNat ≠ n then .badArg else .run (rest.take len.toNat)
  | _ => .badFrame

/-- The bytes the port keeps of a command transaction: its complete bytes, at most 43 (10.2). -/
def keptBytes (code : Byte) (mdi : List Bool) : List Byte := (code :: completeBytes mdi).take (Config.maxArgs + 3)

/-- A whole frame on the wire: code, length, arguments and CRC-8 (R191). -/
def frameBytes (code : Byte) (args : List Byte) : List Byte :=
  let body := code :: BitVec.ofNat 8 args.length :: args
  body ++ [crc8 body]

/-- What follows the code byte of a whole frame, as bits: the operand of the command rows. -/
def frameTail (code : Byte) (args : List Byte) : List Bool := wire ((frameBytes code args).drop 1)

end Sys2Proof.Machine
end

