-- ==== Sys2Proof/Machine/State.lean ====
section
/-! DEFINITION. The state of the part as plain data, one record per block (00, section 3), and State.reset. -/

namespace Sys2Proof.Machine

/-- Nothing stops the part: "The part has no fault state of its own" (R178). Errors are ERROR responses, refusing
replies and events, all of them next states; so no command raises a fault, and there is none to raise (safe). -/
inductive Fault where
deriving DecidableEq, Repr

/-- The one refusal the host asks for. No arm of exec raises it: every row has its meaning (safe). -/
inductive Refusal where
  /-- Raised by an arm of exec whose row has no meaning yet (safe). -/
  | notModelled (mnemonic : String)
deriving DecidableEq, Repr

/-! ### Window Table -/

/-- sample_format (R20). -/
inductive SampleFormat where
  | s16
  | u16
  | s32
  | u32
deriving DecidableEq, Repr

/-- exhaust_policy (R19). -/
inductive ExhaustPolicy where
  | hold
  | spill
deriving DecidableEq, Repr

/-- idle_action (R19). -/
inductive IdleAction where
  | flushPartial
  | discard
deriving DecidableEq, Repr

/-- overrun_policy (R19). -/
inductive OverrunPolicy where
  | keep
  | replace
deriving DecidableEq, Repr

/-- switch_policy (R19). -/
inductive SwitchPolicy where
  | continue
  | restart
deriving DecidableEq, Repr

/-- The program fields of a window (R19), each as wide as the program record carries it (R192): a program with
enable = no may carry values outside the ranges of R19 (R138, R152). -/
structure Fields where
  captureBase : Addr
  resultBase : Addr
  slotBase : BitVec 16
  slotCount : BitVec 16
  format : SampleFormat
  ratio : BitVec 16
  shift : BitVec 8
  exhaust : ExhaustPolicy
  idleLimit : BitVec 16
  idleAction : IdleAction
  overrun : OverrunPolicy
  switch : SwitchPolicy
deriving DecidableEq, Repr

/-- Sub-state of a drain (R142, R145). -/
inductive DrainSub where
  | normal
  | forced
deriving DecidableEq, Repr

/-- Window state (R19, R25 to R27). `opened` is the manual's OPEN. -/
inductive WState where
  | disabled
  | opened
  | draining (sub : DrainSub)
deriving DecidableEq, Repr

/-- The seven counters of a window, 32 bits each, wrapping (R31). -/
structure Counters where
  absorbed : BitVec 32
  committedRecords : BitVec 32
  committedSamples : BitVec 32
  dropped : BitVec 32
  spilled : BitVec 32
  overruns : BitVec 32
  withheld : BitVec 32
deriving DecidableEq, Repr

/-- All seven counters at 0 (R31). -/
def Counters.zero : Counters := ⟨0, 0, 0, 0, 0, 0, 0⟩

/-- A window record (R19, R31). -/
structure Window where
  state : WState
  fields : Fields
  counters : Counters
deriving DecidableEq, Repr

/-! ### Requests, the Response Order List and the intake -/

/-- A link request (1.1): `data` and `be` hold `size` entries, lowest address first, for a WRITE, and none for a READ. -/
structure Request where
  kind : LinkKind
  addr : Addr
  size : Nat
  data : List Byte
  be : List Bool
deriving DecidableEq, Repr

/-- State of a Response Order List entry (R3). -/
inductive RolState where
  | waiting
  | ready (status : LinkStatus) (data : List Byte)
deriving DecidableEq, Repr

/-- A Response Order List entry (R3). `link` names it for the Egress Queue (R118) and `lane` is its address modulo 64,
where its data travels (R201): both are the model's own (log 15). -/
structure RolEntry where
  link : Nat
  kind : LinkKind
  size : Nat
  lane : Nat
  state : RolState
deriving DecidableEq, Repr

/-- Why a request is held (R14). -/
inductive HoldReason where
  | exhaustion
  | drain
deriving DecidableEq, Repr

/-- IG's offered request, with its ROL entry (R9). -/
structure Offer where
  req : Request
  link : Nat
deriving DecidableEq, Repr

/-- The held request (R14), with its ROL entry and the window, first slot and number of samples it had at its last
classification (R52; log 16). -/
structure Held where
  req : Request
  link : Nat
  reason : HoldReason
  window : Fin 16
  slot : Nat
  samples : Nat
deriving DecidableEq, Repr

/-- IG's intake state (R2). The offered and the held request stand in it, so there is at most one of them. -/
inductive Intake where
  | opened
  | offering (o : Offer)
  | holding (h : Held)
deriving DecidableEq, Repr

/-- The Ingress Port. -/
structure IG where
  rol : List RolEntry
  nextLink : Nat
  intake : Intake
deriving DecidableEq, Repr

/-! ### Accumulation Engine -/

/-- A timed interval (R188): where it started and the limit it took there. -/
structure Timer where
  start : Time
  limit : BitVec 16
deriving DecidableEq, Repr

/-- What a context accumulates (R38): the key (window, slot), sum, count and last_sample_time. -/
structure Accum where
  window : Fin 16
  slot : Nat
  sum : BitVec 48
  count : Nat
  lastSampleTime : Time
deriving DecidableEq, Repr

/-- The flags of a result record (R75). `hits` has bit m for HITm; `isPartial` is PARTIAL. -/
structure Flags where
  valid : Bool
  isPartial : Bool
  sat : Bool
  replaced : Bool
  hits : BitVec 4
deriving DecidableEq, Repr

/-- A formed record less its seq (R65, R74). -/
structure Result where
  value : BitVec 32
  count : Nat
  flags : Flags
deriving DecidableEq, Repr

/-- A completed context (R38, R45): what it accumulated, and the fields that have a meaning once it is COMMITTING. -/
structure Completed where
  acc : Accum
  isPartial : Bool
  result : Result
  commitAddress : Addr
  unreachable : Bool
  flushMark : Bool
deriving DecidableEq, Repr

/-- A context of the Accumulator Pool (R38). A FREE context's fields have no meaning, so it has none. -/
inductive Context where
  | free
  | opened (a : Accum)
  | committing (c : Completed)
deriving DecidableEq, Repr

/-- flush-outstanding and flush-entered of one window (R57). -/
structure FlushCounts where
  outstanding : Nat
  entered : Nat
deriving DecidableEq, Repr

/-- The Accumulation Engine. -/
structure AE where
  pool : Vector Context 64
  commitList : List (Fin 64)
  holdTimer : Option Timer
  flush : Vector FlushCounts 16
deriving DecidableEq, Repr

/-! ### Result Former and Limit Monitors -/

/-- A Correction Table entry (R67). -/
structure Correction where
  enabled : Bool
  window : Fin 16
  firstSlot : BitVec 8
  lastSlot : BitVec 8
  offset : BitVec 32
  narrow : Bool
deriving DecidableEq, Repr

/-- Monitor mode (R87). -/
inductive MonitorMode where
  | outside
  | inside
deriving DecidableEq, Repr

/-- Monitor action (R83). -/
inductive MonitorAction where
  | report
  | withhold
deriving DecidableEq, Repr

/-- Monitor state (R84). -/
inductive MonitorState where
  | armed
  | latched
deriving DecidableEq, Repr

/-- A monitor record (R83) and its 16 persistence counters (R85). -/
structure Monitor where
  enabled : Bool
  mask : BitVec 16
  low : BitVec 32
  high : BitVec 32
  mode : MonitorMode
  persistence : BitVec 8
  latch : Bool
  action : MonitorAction
  state : MonitorState
  counters : Vector Nat 16
deriving DecidableEq, Repr

/-! ### Consumption Tracker and Egress Port -/

/-- A Slot Status record (R100). -/
structure SlotStatus where
  seq : BitVec 8
  unread : Bool
deriving DecidableEq, Repr

/-- A reset Slot Status record (R100). -/
def SlotStatus.fresh : SlotStatus := ⟨0, false⟩

/-- The commit link of a COMMIT entry, with its unreachable and stale fields (R118). -/
structure CommitLink where
  window : Fin 16
  slot : Nat
  seq : BitVec 8
  index : Nat
  unreachable : Bool
  stale : Bool
deriving DecidableEq, Repr

/-- The kind of an Egress Queue entry and the link that goes with it (R118). -/
inductive EgressWork where
  | passRead (rol : Nat)
  | passWrite (rol : Nat)
  | commit (link : CommitLink)
deriving DecidableEq, Repr

/-- An Egress Queue entry (R118). `issued` is none while WAITING, and holds the issue time once ISSUED. -/
structure EgressEntry where
  work : EgressWork
  addr : Addr
  size : Nat
  data : List Byte
  be : List Bool
  issued : Option Time
deriving DecidableEq, Repr

/-- The Egress Port. `timer` is the limit the running response timer took (R127); none when it is stopped. -/
structure EG where
  queue : List EgressEntry
  abandoned : Nat
  timer : Option (BitVec 16)
deriving DecidableEq, Repr

/-! ### Program Applier, Event Queue, Management Port -/

/-- A staged program (R137). -/
structure Program where
  window : Fin 16
  enable : Bool
  fields : Fields
deriving DecidableEq, Repr

/-- The Program Applier. -/
structure PA where
  stage : List Program
  drainTimer : Option Timer
deriving DecidableEq, Repr

/-- The seventeen event kinds (9.2). -/
inductive EventKind where
  | limit
  | withheld
  | spill
  | overrunKept
  | overrunReplaced
  | malformed
  | resultWriteRefused
  | programApplied
  | programRejected
  | drainForced
  | contextsDiscarded
  | flushDone
  | engineReset
  | commitError
  | memoryTimeout
  | lateResponse
  | eventsLost
deriving DecidableEq, Repr

/-- The six classes (9.2). -/
inductive EventClass where
  | data
  | flow
  | protocol
  | config
  | memory
  | system
deriving DecidableEq, Repr

/-- An event record (R159). -/
structure EventRecord where
  kind : EventKind
  cls : EventClass
  window : Option (Fin 16)
  slot : Option Nat
  timestamp : Time
  detail : BitVec 32
  aux : BitVec 16
deriving DecidableEq, Repr

/-- The Event Queue. Bit i of `mask` enables DATA, FLOW, PROTOCOL, CONFIG, MEMORY in that order (R167, R193);
`alert` is yes while ALERT# is asserted, that is, pulled low (R168, R202). -/
structure EQ where
  events : List EventRecord
  lost : BitVec 16
  mask : BitVec 5
  alert : Bool
deriving DecidableEq, Repr

/-- The statuses of a reply (R178). -/
inductive Status where
  | ok
  | accepted
  | busy
  | badCrc
  | badFrame
  | badCmd
  | badArg
  | qFull
  | empty
  | none
deriving DecidableEq, Repr

/-- A reply (R177). Its data length and CRC-8 follow from these two (log 23). -/
structure Reply where
  status : Status
  data : List Byte
deriving DecidableEq, Repr

/-- The port state (R174), with the bytes received so far or the stored reply. -/
inductive PortState where
  | idle
  | receiving (bytes : List Byte)
  | responseReady (reply : Reply)
deriving DecidableEq, Repr

/-- The Management Port, with the timebase and the three timer limits. -/
structure MP where
  port : PortState
  timebase : Time
  holdLimit : BitVec 16
  drainLimit : BitVec 16
  responseLimit : BitVec 16
deriving DecidableEq, Repr

/-! ### Pins, reset, the whole state -/

/-- What the ingress response channel carries for one response (R200, R201). -/
structure IgResponse where
  status : LinkStatus
  data : Lanes
deriving DecidableEq, Repr

/-- The output pins (11.10). `igrValid` is the level of IGR_VALID, high in the one LCLK period in which a response is
delivered (R200), and `mdo` the level of MDO, none while it is left floating (R202). Beside the levels stands what the
channels last carried (log 14): the response delivered last, the request memory took last, and the bits of MDO in the
last select period. IGQ_READY, EGQ_VALID and ALERT# follow from the state (Pins.lean). -/
structure Pins where
  igrValid : Bool
  igr : Option IgResponse
  egq : Option Request
  mdo : Option Bool
  mdoSent : List Bool
deriving DecidableEq, Repr

/-- Whether a reset holds the part (R198): `held n` while RST# is asserted or a power-on reset lasts, with `n` REFCLK
periods that the power-on reset still has to run (R199). -/
inductive ResetHold where
  | running
  | held (periods : Nat)
deriving DecidableEq, Repr

/-- The whole state of the part, and the queue of commands that wait. `mcsLow` is the level of MCS# between commands:
every select period is whole within its command but one that is open in a reset; if it is still open when the reset ends,
the port takes no byte from it and waits for the rise of MCS# (R173, R197). -/
structure State where
  hold : ResetHold
  ig : IG
  wt : Vector Window 16
  ae : AE
  rf : Vector Correction 8
  lm : Vector Monitor 4
  ct : Vector SlotStatus 1024
  eg : EG
  pa : PA
  evq : EQ
  mp : MP
  pins : Pins
  mcsLow : Bool
  freeIdx : Nat
  pending : List Instr
deriving DecidableEq, Repr

/-! ### Reset values -/

/-- A window record after power-on or RST# (R37). -/
def Window.reset : Window where
  state := .disabled
  fields :=
    { captureBase := 0, resultBase := 0, slotBase := 0, slotCount := 0, format := .s16, ratio := 1, shift := 0,
      exhaust := .hold, idleLimit := 0, idleAction := .flushPartial, overrun := .keep, switch := .continue }
  counters := Counters.zero

/-- A correction entry after power-on or RST# (R82). -/
def Correction.reset : Correction where
  enabled := false
  window := 0
  firstSlot := 0
  lastSlot := 0
  offset := 0
  narrow := false

/-- A monitor after power-on or RST# (R98). -/
def Monitor.reset : Monitor where
  enabled := false
  mask := 0
  low := 0x80000000
  high := 0x7FFFFFFF
  mode := .outside
  persistence := 1
  latch := false
  action := .report
  state := .armed
  counters := Vector.replicate 16 0

/-- The Accumulation Engine after power-on or RST# (R63). -/
def AE.reset : AE where
  pool := Vector.replicate 64 .free
  commitList := []
  holdTimer := none
  flush := Vector.replicate 16 ⟨0, 0⟩

/-- The part right after the release of a reset (R17, R37, R63, R82, R98, R115, R136, R158, R170, R190, R197). -/
def State.reset : State where
  hold := .running
  ig := { rol := [], nextLink := 0, intake := .opened }
  wt := Vector.replicate 16 Window.reset
  ae := AE.reset
  rf := Vector.replicate 8 Correction.reset
  lm := Vector.replicate 4 Monitor.reset
  ct := Vector.replicate 1024 SlotStatus.fresh
  eg := { queue := [], abandoned := 0, timer := none }
  pa := { stage := [], drainTimer := none }
  evq := { events := [], lost := 0, mask := 0x1F, alert := false }
  mp := { port := .idle, timebase := 0, holdLimit := 200, drainLimit := 2000, responseLimit := 250 }
  pins := { igrValid := false, igr := none, egq := none, mdo := none, mdoSent := [] }
  mcsLow := false
  freeIdx := 0
  pending := []

end Sys2Proof.Machine
end

