-- ==== Sys2Proof/Machine/Flags.lean ====
section
/-! DEFINITION. Every flag computation: the clamps and SAT (R66 to R72), the result record's flag byte (R196), a
monitor's match (R87), the classes and the alert law (9.2, R168). -/

namespace Sys2Proof.Machine

/-! ### The value and SAT -/

/-- The shifted value (R66): the sum, or the sum plus 2^(S-1) shifted right by S, rounded towards minus infinity. -/
def shiftedValue (sum : Int) (shift : Nat) : Int :=
  if shift = 0 then sum else (sum + 2 ^ (shift - 1)) / 2 ^ shift

/-- A value brought into `lo` to `hi` (R70, R71). -/
def clampTo (lo hi v : Int) : Int := if v < lo then lo else if hi < v then hi else v

/-- The clamp of R70, to a signed 32-bit value. -/
def clamp32 (v : Int) : Int := clampTo (-(2 ^ 31)) (2 ^ 31 - 1) v

/-- The narrow range of a sample format (R71). -/
def narrowRange : SampleFormat → Int × Int
  | .s16 => (-32768, 32767)
  | .u16 => (0, 65535)
  | .s32 => (-(2 ^ 31), 2 ^ 31 - 1)
  | .u32 => (0, 2 ^ 31 - 1)

/-- The clamp of R71, to the narrow range of a sample format. -/
def clampNarrow (f : SampleFormat) (v : Int) : Int := clampTo (narrowRange f).1 (narrowRange f).2 v

/-- The corrected value (R69): the shifted value less the applying entry's offset. -/
def correctedValue (entry : Option Correction) (v : Int) : Int :=
  match entry with
  | some e => v - e.offset.toInt
  | none => v

/-- The value after both clamps (R70, R71), from the corrected value. -/
def clampedValue (entry : Option Correction) (f : SampleFormat) (corrected : Int) : Int :=
  match entry with
  | some e => if e.narrow then clampNarrow f (clamp32 corrected) else clamp32 corrected
  | none => clamp32 corrected

/-- SAT (R72): one of the clamps changed the value. -/
def satFlag (entry : Option Correction) (f : SampleFormat) (corrected : Int) : Bool :=
  decide (clamp32 corrected ≠ corrected) || decide (clampedValue entry f corrected ≠ clamp32 corrected)

/-! ### The result record -/

/-- A bit as a number. -/
def bitNat (b : Bool) (i : Nat) : Nat := if b then 2 ^ i else 0

/-- The flag byte of the result record (R196). -/
def Flags.byte (f : Flags) : Byte :=
  BitVec.ofNat 8 (bitNat f.valid 0 + bitNat f.isPartial 1 + bitNat f.sat 2 + bitNat f.replaced 3 + 16 * f.hits.toNat)

/-- The eight bytes of a result record (R196). -/
def recordBytes (r : Result) (seq : BitVec 8) : List Byte :=
  leBytes r.value.toNat 4 ++ leBytes r.count 2 ++ [seq, r.flags.byte]

/-! ### Monitors -/

/-- Whether a monitor matches a value (R87), compared as signed 32-bit values. -/
def Monitor.isMatch (m : Monitor) (v : BitVec 32) : Bool :=
  match m.mode with
  | .outside => v.slt m.low || m.high.slt v
  | .inside => m.low.sle v && v.sle m.high

/-! ### Events and ALERT# -/

/-- The class of a kind (9.2). -/
def EventKind.cls : EventKind → EventClass
  | .limit => .data
  | .withheld => .data
  | .spill => .flow
  | .overrunKept => .flow
  | .overrunReplaced => .flow
  | .malformed => .protocol
  | .resultWriteRefused => .protocol
  | .programApplied => .config
  | .programRejected => .config
  | .drainForced => .config
  | .contextsDiscarded => .config
  | .flushDone => .config
  | .engineReset => .config
  | .commitError => .memory
  | .memoryTimeout => .memory
  | .lateResponse => .memory
  | .eventsLost => .system

/-- The code of a kind (9.2). -/
def EventKind.code : EventKind → Nat
  | .limit => 1
  | .withheld => 2
  | .spill => 3
  | .overrunKept => 4
  | .overrunReplaced => 5
  | .malformed => 6
  | .resultWriteRefused => 7
  | .programApplied => 8
  | .programRejected => 9
  | .drainForced => 10
  | .contextsDiscarded => 11
  | .flushDone => 12
  | .engineReset => 13
  | .commitError => 14
  | .memoryTimeout => 15
  | .lateResponse => 16
  | .eventsLost => 17

/-- The code of a class (R159). -/
def EventClass.code : EventClass → Nat
  | .data => 1
  | .flow => 2
  | .protocol => 3
  | .config => 4
  | .memory => 5
  | .system => 6

/-- Whether a class is alert-enabled (R167): SYSTEM always, the others by the mask. -/
def classEnabled (mask : BitVec 5) : EventClass → Bool
  | .data => mask.getLsbD 0
  | .flow => mask.getLsbD 1
  | .protocol => mask.getLsbD 2
  | .config => mask.getLsbD 3
  | .memory => mask.getLsbD 4
  | .system => true

/-- The alert law (R168): a queued record of an enabled class, or a lost count above 0. -/
def alertLevel (events : List EventRecord) (lost : BitVec 16) (mask : BitVec 5) : Bool :=
  events.any (fun r => classEnabled mask r.cls) || decide (lost ≠ 0)

/-- The lost count increased by 1, unless it is 65535 (R161). -/
def lostPlusOne (lost : BitVec 16) : BitVec 16 := if lost = 0xFFFF then lost else lost + 1

end Sys2Proof.Machine
end

