-- ==== Sys2Proof/Machine/Ops.lean ====
section
/-! DEFINITION. The named operations over the blocks' tables and queues: one home for every read and write. -/

namespace Sys2Proof.Machine

/-! ### Reset hold, time -/

/-- Whether no reset holds the part. -/
def State.running (s : State) : Bool :=
  match s.hold with
  | .running => true
  | .held _ => false

/-- What a command does: `f`, or nothing while a reset holds the part ("acts on nothing", R198). -/
def State.active (s : State) (f : State → State) : State := if s.running then f s else s

/-- The time passed since a start value, modulo 2^32 (00 section 6, R188). -/
def elapsed (now start : Time) : Nat := (now - start).toNat

/-- Whether an interval's limit has passed (R188; log 3). -/
def Timer.due (t : Timer) (now : Time) : Bool := decide (t.limit.toNat ≤ elapsed now t.start)

/-! ### Event Queue -/

/-- ALERT# takes its level (R168). -/
def EQ.evalAlert (q : EQ) : EQ := { q with alert := alertLevel q.events q.lost q.mask }

/-- EQ takes a record: appended while fewer than 32 are queued, else discarded and counted (R160, R161). -/
def EQ.take (q : EQ) (r : EventRecord) : EQ :=
  (if q.events.length < Config.eventQueue then { q with events := q.events ++ [r] }
   else { q with lost := lostPlusOne q.lost }).evalAlert

/-- A block hands EQ one record; EQ fills class and timestamp (R159, R160). -/
def State.record (s : State) (kind : EventKind) (window : Option (Fin 16)) (slot : Option Nat) (detail : BitVec 32)
    (aux : Nat) : State :=
  let r : EventRecord :=
    { kind := kind, cls := kind.cls, window := window, slot := slot, timestamp := s.mp.timebase, detail := detail,
      aux := BitVec.ofNat 16 aux }
  { s with evq := s.evq.take r }

/-! ### Window Table -/

/-- Window `w`. -/
def State.win (s : State) (w : Fin 16) : Window := s.wt[w.val]

/-- Window `w` replaced. -/
def State.setWin (s : State) (w : Fin 16) (x : Window) : State := { s with wt := s.wt.set w.val x }

/-- Window `w` with another state. -/
def State.setWinState (s : State) (w : Fin 16) (x : WState) : State := s.setWin w { s.win w with state := x }

/-- Counters of window `w` changed. -/
def State.count (s : State) (w : Fin 16) (f : Counters → Counters) : State :=
  s.setWin w { s.win w with counters := f (s.win w).counters }

/-- Whether a window decodes: OPEN or DRAINING (R4). -/
def Window.decodes (x : Window) : Bool :=
  match x.state with
  | .disabled => false
  | .opened => true
  | .draining _ => true

/-! ### Accumulator Pool -/

/-- Context `i`. -/
def State.ctx (s : State) (i : Fin 64) : Context := s.ae.pool[i.val]

/-- Context `i` replaced. -/
def State.setCtx (s : State) (i : Fin 64) (c : Context) : State := { s with ae := { s.ae with pool := s.ae.pool.set i.val c } }

/-- The Commit List replaced. -/
def State.setCommitList (s : State) (l : List (Fin 64)) : State := { s with ae := { s.ae with commitList := l } }

/-- The hold timer replaced. -/
def State.setHoldTimer (s : State) (t : Option Timer) : State := { s with ae := { s.ae with holdTimer := t } }

/-- Flush counts of window `w`. -/
def State.flushOf (s : State) (w : Fin 16) : FlushCounts := s.ae.flush[w.val]

/-- Flush counts of window `w` replaced. -/
def State.setFlush (s : State) (w : Fin 16) (x : FlushCounts) : State :=
  { s with ae := { s.ae with flush := s.ae.flush.set w.val x } }

/-- A context is FREE. -/
def Context.isFree : Context → Bool
  | .free => true
  | .opened _ => false
  | .committing _ => false

/-- A context is OPEN. -/
def Context.isOpen : Context → Bool
  | .free => false
  | .opened _ => true
  | .committing _ => false

/-- A context is COMMITTING. -/
def Context.isCommitting : Context → Bool
  | .free => false
  | .opened _ => false
  | .committing _ => true

/-- What a context has accumulated, unless it is FREE. -/
def Context.acc? : Context → Option Accum
  | .free => none
  | .opened a => some a
  | .committing c => some c.acc

/-- A context serves window `w` (never a FREE one). -/
def Context.inWindow (c : Context) (w : Fin 16) : Bool :=
  match c.acc? with
  | some a => decide (a.window = w)
  | none => false

/-- A context is the OPEN context of key (`w`, `slot`). -/
def Context.isKey (c : Context) (w : Fin 16) (slot : Nat) : Bool :=
  match c with
  | .opened a => decide (a.window = w ∧ a.slot = slot)
  | .free => false
  | .committing _ => false

/-- Number of FREE contexts. -/
def State.freeCount (s : State) : Nat := s.ae.pool.toList.countP Context.isFree

/-- Number of OPEN contexts. -/
def State.openCount (s : State) : Nat := s.ae.pool.toList.countP Context.isOpen

/-- Number of COMMITTING contexts. -/
def State.committingCount (s : State) : Nat := s.ae.pool.toList.countP Context.isCommitting

/-- Number of OPEN contexts of window `w`. -/
def State.openOf (s : State) (w : Fin 16) : Nat := s.ae.pool.toList.countP (fun c => c.isOpen && c.inWindow w)

/-- Number of COMMITTING contexts of window `w`. -/
def State.committingOf (s : State) (w : Fin 16) : Nat :=
  s.ae.pool.toList.countP (fun c => c.isCommitting && c.inWindow w)

/-- Whether window `w` holds an OPEN or COMMITTING context. -/
def State.holdsContexts (s : State) (w : Fin 16) : Bool := s.ae.pool.toList.any (fun c => c.inWindow w)

/-- The lookup of R40: the OPEN context of a key, or none. -/
def State.lookup (s : State) (w : Fin 16) (slot : Nat) : Option (Fin 64) :=
  (List.finRange 64).find? (fun i => (s.ctx i).isKey w slot)

/-- The slot of a context, 0 for a FREE one. -/
def State.slotOf (s : State) (i : Fin 64) : Nat :=
  match (s.ctx i).acc? with
  | some a => a.slot
  | none => 0

/-- The OPEN contexts of window `w`, in ascending slot order (R58, R60). -/
def State.openInOrder (s : State) (w : Fin 16) : List (Fin 64) :=
  ((List.finRange 64).filter (fun i => (s.ctx i).isOpen && (s.ctx i).inWindow w)).insertionSort
    (fun i j => s.slotOf i ≤ s.slotOf j)

/-! ### Slot Status Memory -/

/-- Slot Status record `i` (log 24). -/
def State.slotAt (s : State) (i : Nat) : SlotStatus := s.ct[i]?.getD SlotStatus.fresh

/-- Slot Status record `i` replaced. -/
def State.setSlot (s : State) (i : Nat) (x : SlotStatus) : State := { s with ct := s.ct.setIfInBounds i x }

/-- Slot i of window `w` as a Slot Status index, with the slot_base in force (R24). -/
def State.slotIndex (s : State) (w : Fin 16) (slot : Nat) : Nat := (s.win w).fields.slotBase.toNat + slot

/-- The entry's commit link made stale when its index is one that `p` names (R114, R115, R118). -/
def EgressEntry.staleWhere (p : Nat → Bool) (e : EgressEntry) : EgressEntry :=
  match e.work with
  | .commit l => { e with work := .commit { l with stale := l.stale || p l.index } }
  | .passRead _ => e
  | .passWrite _ => e

/-- The indices that `p` names are reset (R100), and the COMMIT entries that hold one become stale (R118). -/
def State.resetSlots (s : State) (p : Nat → Bool) : State :=
  { s with
    ct := mapIdxV (fun i x => if p i then SlotStatus.fresh else x) s.ct
    eg := { s.eg with queue := s.eg.queue.map (EgressEntry.staleWhere p) } }

/-! ### Limit Monitors -/

/-- Monitor `m`. -/
def State.mon (s : State) (m : Fin 4) : Monitor := s.lm[m.val]

/-- Monitor `m` replaced. -/
def State.setMon (s : State) (m : Fin 4) (x : Monitor) : State := { s with lm := s.lm.set m.val x }

/-! ### Response Order List and intake -/

/-- An entry becomes READY once, and then keeps its status and data (R3, R12). -/
def RolEntry.makeReady (e : RolEntry) (link : Nat) (status : LinkStatus) (data : List Byte) : RolEntry :=
  if e.link = link then
    match e.state with
    | .waiting => { e with state := .ready status data }
    | .ready _ _ => e
  else e

/-- The ROL entry of a link becomes READY (R12). -/
def State.rolReady (s : State) (link : Nat) (status : LinkStatus) (data : List Byte) : State :=
  { s with ig := { s.ig with rol := s.ig.rol.map (fun e => e.makeReady link status data) } }

/-- IG's intake state replaced. -/
def State.setIntake (s : State) (x : Intake) : State := { s with ig := { s.ig with intake := x } }

/-- IGQ_READY (R2, R200): intake OPEN, fewer than 16 entries, and no reset holding the part (R198). -/
def State.igqReady (s : State) : Bool :=
  s.running && decide (s.ig.intake = .opened) && decide (s.ig.rol.length < Config.rolEntries)

/-! ### Egress Queue -/

/-- The Egress Queue replaced. -/
def State.setQueue (s : State) (q : List EgressEntry) : State := { s with eg := { s.eg with queue := q } }

/-- The abandoned count replaced. -/
def State.setAbandoned (s : State) (n : Nat) : State := { s with eg := { s.eg with abandoned := n } }

/-- The entry is ISSUED. -/
def EgressEntry.isIssued (e : EgressEntry) : Bool := e.issued.isSome

/-- The entry is an unreachable COMMIT (R118, R125). -/
def EgressEntry.isUnreachable (e : EgressEntry) : Bool :=
  match e.work with
  | .commit l => l.unreachable
  | .passRead _ => false
  | .passWrite _ => false

/-- Number of ISSUED entries (R126). -/
def State.issuedCount (s : State) : Nat := s.eg.queue.countP EgressEntry.isIssued

/-- The oldest ISSUED entry. -/
def State.oldestIssued (s : State) : Option EgressEntry := s.eg.queue.find? EgressEntry.isIssued

/-- The oldest WAITING entry. -/
def State.oldestWaiting (s : State) : Option EgressEntry := s.eg.queue.find? (fun e => !e.isIssued)

/-- The queue less its oldest ISSUED entry (R119). -/
def dropOldestIssued (q : List EgressEntry) : List EgressEntry := q.eraseP EgressEntry.isIssued

/-- The queue less its oldest WAITING entry (R119, R125). -/
def dropOldestWaiting (q : List EgressEntry) : List EgressEntry := q.eraseP (fun e => !e.isIssued)

/-- The oldest WAITING entry becomes ISSUED at a time (R124). -/
def issueOldest (now : Time) : List EgressEntry → List EgressEntry
  | [] => []
  | e :: q => if e.isIssued then e :: issueOldest now q else { e with issued := some now } :: q

/-- A position is free (R119). -/
def State.hasPosition (s : State) : Bool := decide (s.eg.queue.length < Config.egressQueue)

/-- EGQ_VALID (R124, R201): the oldest WAITING entry is reachable and the issue limit has room; low in reset (R198). -/
def State.egqValid (s : State) : Bool :=
  s.running &&
  (match s.oldestWaiting with
   | some e => !e.isUnreachable && decide (s.issuedCount + s.eg.abandoned < Config.egressQueue)
   | none => false)

/-! ### Stage Queue -/

/-- The Stage Queue replaced. -/
def State.setStage (s : State) (l : List Program) : State := { s with pa := { s.pa with stage := l } }

/-- The drain timer replaced. -/
def State.setDrainTimer (s : State) (t : Option Timer) : State := { s with pa := { s.pa with drainTimer := t } }

/-! ### Port and pins -/

/-- The port state replaced. -/
def State.setPort (s : State) (p : PortState) : State := { s with mp := { s.mp with port := p } }

/-- The level of MCS# between commands. -/
def State.setMcsLow (s : State) (b : Bool) : State := { s with mcsLow := b }

/-- MCS# is low and these bits travel on MDO, one a clock; its level stays at the last of them (R172, R202). -/
def State.driveMdo (s : State) (bits : List Bool) : State :=
  { s with pins := { s.pins with mdo := bits.getLast?, mdoSent := bits } }

/-- MCS# rises: MDO is left floating (R202). -/
def State.floatMdo (s : State) : State := { s with pins := { s.pins with mdo := none } }

/-- IGR_VALID is high with a response, for one LCLK period (R200). -/
def State.raiseIgr (s : State) (r : IgResponse) : State := { s with pins := { s.pins with igrValid := true, igr := some r } }

/-- The LCLK period of a response ends: IGR_VALID is low (R200). -/
def State.lowerIgr (s : State) : State := { s with pins := { s.pins with igrValid := false } }

end Sys2Proof.Machine
end

