-- ==== Sys2Proof/Machine/Operands.lean ====
section
/-! DEFINITION. Operand forms: link requests and their lanes (1.1, 11.10), samples (R7, R20), and the byte layouts of
arguments, replies and records (R192 to R195). -/

namespace Sys2Proof.Machine

/-! ### Lanes and requests -/

/-- The byte on lane `i` modulo 64. -/
def laneByte (d : Lanes) (i : Nat) : Byte := d[i % 64]'(Nat.mod_lt _ (by decide))

/-- The `n` bytes that travel from address lane `lane` on (11.10). -/
def fromLanes (d : Lanes) (lane n : Nat) : List Byte := (List.range n).map (fun j => laneByte d (lane + j))

/-- The byte enables of the `n` bytes from lane `lane` on (11.10). -/
def enablesFrom (be : BitVec 64) (lane n : Nat) : List Bool := (List.range n).map (fun j => be.getLsbD ((lane + j) % 64))

/-- Bytes on their lanes from `lane` on, the other lanes low (R201). -/
def toLanes (lane : Nat) (bytes : List Byte) : Lanes :=
  tabulate 64 (fun l => if lane ≤ l then bytes.getD (l - lane) 0 else 0)

/-- The lane of an address: the address modulo 64 (11.10). -/
def laneOf (a : Addr) : Nat := a.toNat % 64

/-- The request that the pins of the ingress request channel spell (1.1, R201). -/
def linkRequest (kind : LinkKind) (addr : Addr) (size : BitVec 7) (data : Lanes) (be : BitVec 64) : Request where
  kind := kind
  addr := addr
  size := size.toNat
  data :=
    match kind with
    | .read => []
    | .write => fromLanes data (laneOf addr) size.toNat
  be :=
    match kind with
    | .read => []
    | .write => enablesFrom be (laneOf addr) size.toNat

/-- The byte addresses of a request, lowest first. -/
def Request.bytes (r : Request) : List Nat := (List.range r.size).map (fun j => r.addr.toNat + j)

/-- The low 32 bits of an address. -/
def low32 (a : Addr) : BitVec 32 := a.setWidth 32

/-- The cause code of a link violation: 1 ZERO_SIZE, 2 BLOCK_CROSSING (R1). -/
def Request.violation (r : Request) : Option Nat :=
  if r.size = 0 then some 1 else if 64 < laneOf r.addr + r.size then some 2 else none

/-! ### Samples -/

/-- The width of a sample in bytes (R20). -/
def SampleFormat.width : SampleFormat → Nat
  | .s16 => 2
  | .u16 => 2
  | .s32 => 4
  | .u32 => 4

/-- A sample extended to 48 bits (R20, R42): sign extension for S16 and S32, zero extension for U16 and U32. -/
def extendSample (f : SampleFormat) (n : Nat) : BitVec 48 :=
  match f with
  | .s16 => (BitVec.ofNat 16 n).signExtend 48
  | .u16 => (BitVec.ofNat 16 n).setWidth 48
  | .s32 => (BitVec.ofNat 32 n).signExtend 48
  | .u32 => (BitVec.ofNat 32 n).setWidth 48

/-- Sample `j` of a write: `width` bytes at address + j × width, little-endian (R7), extended. -/
def sampleAt (f : SampleFormat) (data : List Byte) (j : Nat) : BitVec 48 :=
  extendSample f (fieldAt data (j * f.width) f.width)

/-- The `k` samples of a write for slots f, f+1, …: each slot with its extended sample (R7). -/
def samplesOf (fmt : SampleFormat) (data : List Byte) (f k : Nat) : List (Nat × BitVec 48) :=
  (List.range k).map (fun j => (f + j, sampleAt fmt data j))

/-! ### The program record (R192) -/

/-- sample_format from its code. -/
def formatOfBits (b1 b0 : Bool) : SampleFormat :=
  match b1, b0 with
  | false, false => .s16
  | false, true => .u16
  | true, false => .s32
  | true, true => .u32

/-- The code of a sample_format. -/
def SampleFormat.code : SampleFormat → Nat
  | .s16 => 0
  | .u16 => 1
  | .s32 => 2
  | .u32 => 3

/-- The program fields that a 21-byte program record carries. -/
def fieldsOf (a : List Byte) : Fields :=
  let c := byteAt a 1
  { captureBase := BitVec.ofNat 40 (fieldAt a 2 5)
    resultBase := BitVec.ofNat 40 (fieldAt a 7 5)
    slotBase := BitVec.ofNat 16 (fieldAt a 12 2)
    slotCount := BitVec.ofNat 16 (fieldAt a 14 2)
    format := formatOfBits (c.getLsbD 2) (c.getLsbD 1)
    ratio := BitVec.ofNat 16 (fieldAt a 16 2)
    shift := byteAt a 18
    exhaust := if c.getLsbD 3 then .spill else .hold
    idleLimit := BitVec.ofNat 16 (fieldAt a 19 2)
    idleAction := if c.getLsbD 4 then .discard else .flushPartial
    overrun := if c.getLsbD 5 then .replace else .keep
    switch := if c.getLsbD 6 then .restart else .continue }

/-- The control byte of a program record (R192), bit 7 reading 0. -/
def controlByte (enable : Bool) (x : Fields) : Byte :=
  BitVec.ofNat 8 (bitNat enable 0 + 2 * x.format.code + bitNat (decide (x.exhaust = .spill)) 3 +
    bitNat (decide (x.idleAction = .discard)) 4 + bitNat (decide (x.overrun = .replace)) 5 +
    bitNat (decide (x.switch = .restart)) 6)

/-- The 21 bytes of a program record (R192). -/
def programBytes (w : Fin 16) (enable : Bool) (x : Fields) : List Byte :=
  [BitVec.ofNat 8 w.val, controlByte enable x] ++ leBytes x.captureBase.toNat 5 ++ leBytes x.resultBase.toNat 5 ++
    leBytes x.slotBase.toNat 2 ++ leBytes x.slotCount.toNat 2 ++ leBytes x.ratio.toNat 2 ++ [x.shift] ++
    leBytes x.idleLimit.toNat 2

/-- The range checks of R138 that hold for a program with enable yes; the naming checks hold of every code (R192). -/
def Fields.inRange (x : Fields) : Bool :=
  decide (1 ≤ x.slotCount.toNat ∧ x.slotCount.toNat ≤ 256) &&
  decide (x.slotBase.toNat + x.slotCount.toNat ≤ Config.slotRecords) &&
  decide (1 ≤ x.ratio.toNat ∧ x.ratio.toNat ≤ 512) &&
  decide (x.shift.toNat ≤ 12) &&
  decide (x.captureBase.toNat % 64 = 0 ∧ x.resultBase.toNat % 64 = 0)

/-- The program of a program record that passes the checks of R138 before the last; none is BADARG. -/
def stagedProgram (a : List Byte) : Option Program :=
  let c := byteAt a 1
  if h : (byteAt a 0).toNat < 16 then
    if c.getLsbD 0 && !((fieldsOf a).inRange && !c.getLsbD 7) then none
    else some { window := ⟨(byteAt a 0).toNat, h⟩, enable := c.getLsbD 0, fields := fieldsOf a }
  else none

/-- The window an index byte names; none above 15. -/
def windowArg (b : Byte) : Option (Fin 16) := if h : b.toNat < 16 then some ⟨b.toNat, h⟩ else none

/-! ### The correction, monitor and timer arguments (R193) -/

/-- The entry a SET_CORRECTION argument names and its six fields, or none when a check of R79 fails. -/
def correctionArg (a : List Byte) : Option (Fin 8 × Correction) :=
  if hi : (byteAt a 0).toNat < 8 then
    if hw : (byteAt a 2).toNat < 16 then
      if (byteAt a 3).toNat ≤ (byteAt a 4).toNat then
        some (⟨(byteAt a 0).toNat, hi⟩,
          { enabled := (byteAt a 1).getLsbD 0
            window := ⟨(byteAt a 2).toNat, hw⟩
            firstSlot := byteAt a 3
            lastSlot := byteAt a 4
            offset := BitVec.ofNat 32 (fieldAt a 5 4)
            narrow := (byteAt a 1).getLsbD 1 })
      else none
    else none
  else none

/-- The monitor an index byte names; none above 3. -/
def monitorIndex (b : Byte) : Option (Fin 4) := if h : b.toNat < 4 then some ⟨b.toNat, h⟩ else none

/-- The monitor a SET_MONITOR argument names and its record, ARMED with counters 0, or none when a check of R94 fails. -/
def monitorArg (a : List Byte) : Option (Fin 4 × Monitor) :=
  let c := byteAt a 1
  let low := BitVec.ofNat 32 (fieldAt a 4 4)
  let high := BitVec.ofNat 32 (fieldAt a 8 4)
  let p := byteAt a 12
  match monitorIndex (byteAt a 0) with
  | none => none
  | some m =>
    if low.sle high && decide (1 ≤ p.toNat ∧ p.toNat ≤ 15) && decide (c.toNat < 16) then
      some (m,
        { enabled := c.getLsbD 0
          mask := BitVec.ofNat 16 (fieldAt a 2 2)
          low := low
          high := high
          mode := if c.getLsbD 1 then .inside else .outside
          persistence := p
          latch := c.getLsbD 2
          action := if c.getLsbD 3 then .withhold else .report
          state := .armed
          counters := Vector.replicate 16 0 })
    else none

/-- The four values of a SET_TIMERS argument (R193). -/
structure TimerArgs where
  hold : BitVec 16
  drain : BitVec 16
  response : BitVec 16
  mask : BitVec 5
deriving DecidableEq, Repr

/-- The values a SET_TIMERS argument carries, or none when R189 refuses them. -/
def timerArg (a : List Byte) : Option TimerArgs :=
  let t : TimerArgs :=
    { hold := BitVec.ofNat 16 (fieldAt a 0 2)
      drain := BitVec.ofNat 16 (fieldAt a 2 2)
      response := BitVec.ofNat 16 (fieldAt a 4 2)
      mask := (byteAt a 6).setWidth 5 }
  if 1 ≤ t.drain.toNat ∧ 1 ≤ t.response.toNat ∧ t.response.toNat ≤ 4095 then some t else none

/-- The SET_TIMERS layout of the values in force (R193, R194). What bits 5 to 7 of the mask byte read, which are not
stored, is left open; the model sends them as 0 (log 33). -/
def timerBytes (hold drain response : BitVec 16) (mask : BitVec 5) : List Byte :=
  leBytes hold.toNat 2 ++ leBytes drain.toNat 2 ++ leBytes response.toNat 2 ++ [mask.setWidth 8]

/-! ### Replies (R178, R194, R195) -/

/-- The code of a status (R178). -/
def Status.code : Status → Byte
  | .ok => 0x01
  | .accepted => 0x02
  | .busy => 0x03
  | .badCrc => 0x04
  | .badFrame => 0x05
  | .badCmd => 0x06
  | .badArg => 0x07
  | .qFull => 0x08
  | .empty => 0x09
  | .none => 0x0A

/-- A reply with no data. -/
def Reply.plain (st : Status) : Reply := ⟨st, []⟩

/-- An OK reply. -/
def Reply.okay (data : List Byte) : Reply := ⟨.ok, data⟩

/-- The bytes of a reply as they are sent: status, data length, data, CRC-8 (R177). -/
def Reply.bytes (r : Reply) : List Byte :=
  let body := r.status.code :: BitVec.ofNat 8 r.data.length :: r.data
  body ++ [crc8 body]

/-- The 14 bytes of the IDENT reply (R179, R194). -/
def identBytes : List Byte :=
  leBytes Config.partCode 2 ++ leBytes Config.revision 1 ++ leBytes Config.windows 1 ++ leBytes Config.contexts 1 ++
    leBytes Config.slotRecords 2 ++ leBytes Config.corrections 1 ++ leBytes Config.monitors 1 ++
    leBytes Config.stageQueue 1 ++ leBytes Config.egressQueue 1 ++ leBytes Config.rolEntries 1 ++
    leBytes Config.eventQueue 1 ++ leBytes Config.maxArgs 1

/-- A window or slot field of an event record: 0xFFFF stands for none (R195). -/
def orNone (x : Option Nat) : Nat := x.getD 0xFFFF

/-- The 16 bytes of an event record (R195). -/
def EventRecord.bytes (r : EventRecord) : List Byte :=
  leBytes r.kind.code 1 ++ leBytes r.cls.code 1 ++ leBytes (orNone (r.window.map Fin.val)) 2 ++ leBytes (orNone r.slot) 2 ++
    leBytes r.timestamp.toNat 4 ++ leBytes r.detail.toNat 4 ++ leBytes r.aux.toNat 2

/-- The state code of a window (R181). -/
def WState.code : WState → Nat
  | .disabled => 0
  | .opened => 1
  | .draining .normal => 2
  | .draining .forced => 3

/-- The seven counters of a window in the order of R181, 4 bytes each. -/
def Counters.bytes (c : Counters) : List Byte :=
  leBytes c.absorbed.toNat 4 ++ leBytes c.committedRecords.toNat 4 ++ leBytes c.committedSamples.toNat 4 ++
    leBytes c.dropped.toNat 4 ++ leBytes c.spilled.toNat 4 ++ leBytes c.overruns.toNat 4 ++ leBytes c.withheld.toNat 4

/-- The 52 bytes of the QUERY_WINDOW reply (R181, R194). -/
def State.windowBytes (s : State) (w : Fin 16) : List Byte :=
  programBytes w (s.win w).decodes (s.win w).fields ++ leBytes (s.win w).state.code 1 ++ leBytes (s.openOf w) 1 ++
    leBytes (s.committingOf w) 1 ++ (s.win w).counters.bytes

/-- The held-request reason code: 0 NONE, 1 EXHAUSTION, 2 DRAIN (R184). -/
def Intake.reasonCode : Intake → Nat
  | .opened => 0
  | .offering _ => 0
  | .holding h =>
    match h.reason with
    | .exhaustion => 1
    | .drain => 2

/-- The time remaining on the hold timer, 0 when it is stopped (R50, R184). -/
def State.holdRemaining (s : State) : Nat :=
  match s.ae.holdTimer with
  | some t => t.limit.toNat - elapsed s.mp.timebase t.start
  | none => 0

/-- The 9 bytes of the QUERY_POOL reply (R184, R194). -/
def State.poolBytes (s : State) : List Byte :=
  leBytes s.freeCount 1 ++ leBytes s.openCount 1 ++ leBytes s.committingCount 1 ++ leBytes s.ae.commitList.length 1 ++
    leBytes s.ig.intake.reasonCode 1 ++ leBytes s.holdRemaining 2 ++ leBytes s.eg.queue.length 1 ++
    leBytes s.eg.abandoned 1

end Sys2Proof.Machine
end

