-- ==== Sys2Proof/Machine/Decoder.lean ====
section
/-! DEFINITION. The Window Decoder (R4), the sorting of a request (R5 to R8), and the overlap comparison (R29). -/

namespace Sys2Proof.Machine

/-- A half-open interval of integers (R29). -/
structure Span where
  lo : Nat
  hi : Nat
deriving DecidableEq, Repr

/-- A point lies in an interval. -/
def Span.has (x : Span) (a : Nat) : Bool := decide (x.lo ≤ a ∧ a < x.hi)

/-- Two intervals have a point in common (R29). -/
def Span.overlaps (x y : Span) : Bool := decide (Nat.max x.lo y.lo < Nat.min x.hi y.hi)

/-- The capture region (R21), without wrap-around (R23). -/
def Fields.capture (x : Fields) : Span :=
  ⟨x.captureBase.toNat, x.captureBase.toNat + x.slotCount.toNat * x.format.width⟩

/-- The result region (R22), without wrap-around (R23). -/
def Fields.result (x : Fields) : Span := ⟨x.resultBase.toNat, x.resultBase.toNat + x.slotCount.toNat * 8⟩

/-- The slot range (R24). -/
def Fields.slots (x : Fields) : Span := ⟨x.slotBase.toNat, x.slotBase.toNat + x.slotCount.toNat⟩

/-- The kind of a region (R4). -/
inductive Region where
  | capture
  | result
deriving DecidableEq, Repr

/-- An answer of the decoder: window, region kind and slot (R4). -/
structure Decoded where
  window : Fin 16
  region : Region
  slot : Nat
deriving DecidableEq, Repr

/-- The answer one window gives for a byte address (R4). -/
def Window.decode (x : Window) (w : Fin 16) (a : Nat) : Option Decoded :=
  if !x.decodes then none
  else if x.fields.capture.has a then some ⟨w, .capture, (a - x.fields.captureBase.toNat) / x.fields.format.width⟩
  else if x.fields.result.has a then some ⟨w, .result, (a - x.fields.resultBase.toNat) / 8⟩
  else none

/-- The Window Decoder (R4): the region that holds a byte address, if any. By the region law at most one does (R30). -/
def State.decode (s : State) (a : Nat) : Option Decoded := (List.finRange 16).findSome? (fun w => (s.win w).decode w a)

/-- An answer that lies in a result region. -/
def Decoded.isResult (d : Decoded) : Bool := decide (d.region = .result)

/-- An answer that lies in a capture region. -/
def Decoded.isCapture (d : Decoded) : Bool := decide (d.region = .capture)

/-- The answers for the bytes of a request, lowest address first. -/
def State.answers (s : State) (r : Request) : List (Option Decoded) := r.bytes.map s.decode

/-- The lowest-addressed byte that lies in a result region (R6). -/
def State.firstResult (s : State) (r : Request) : Option Decoded :=
  (s.answers r).findSome? (fun o => o.filter Decoded.isResult)

/-- The lowest-addressed byte that lies in a capture region (R8). -/
def State.firstCapture (s : State) (r : Request) : Option Decoded :=
  (s.answers r).findSome? (fun o => o.filter Decoded.isCapture)

/-- R7 and R8: the cause code of the first condition that a WRITE touching window `w`'s capture region fails
(3 STRADDLE, 4 MISALIGNED, 5 LENGTH, 6 PARTIAL_ENABLES), or none: a sample write. -/
def State.misshape (s : State) (r : Request) (w : Fin 16) : Option Nat :=
  let x := (s.win w).fields
  if !(s.answers r).all (fun o => o.any (fun d => d.isCapture && decide (d.window = w))) then some 3
  else if (r.addr.toNat - x.captureBase.toNat) % x.format.width ≠ 0 then some 4
  else if r.size % x.format.width ≠ 0 then some 5
  else if !r.be.all (fun b => b) then some 6
  else none

/-- What IG makes of a request (R1, R5): a link violation, one of the two refusals, a sample write for AE, or a
pass-through. -/
inductive Sorted where
  | violation (cause : Nat)
  | resultWrite (d : Decoded)
  | malformed (d : Decoded) (cause : Nat)
  | sampleWrite (d : Decoded)
  | passThrough
deriving DecidableEq, Repr

/-- R1, then the tests of R5, first test first. -/
def State.sort (s : State) (r : Request) : Sorted :=
  match r.violation with
  | some cause => .violation cause
  | none =>
    match r.kind with
    | .read => .passThrough
    | .write =>
      match s.firstResult r with
      | some d => .resultWrite d
      | none =>
        match s.firstCapture r with
        | some d =>
          match s.misshape r d.window with
          | some cause => .malformed d cause
          | none => .sampleWrite d
        | none => .passThrough

/-- The Slot Status indices that a READ consumes: every slot with a touched byte in a result region (R10). -/
def State.consumed (s : State) (r : Request) : List Nat :=
  (s.answers r).filterMap (fun o => (o.filter Decoded.isResult).map (fun d => s.slotIndex d.window d.slot))

/-! ### The comparison of R29 -/

/-- Either region of one program overlaps either region of the other. -/
def Fields.regionOverlap (x y : Fields) : Bool :=
  x.capture.overlaps y.capture || x.capture.overlaps y.result || x.result.overlaps y.capture || x.result.overlaps y.result

/-- The slot ranges overlap. -/
def Fields.slotOverlap (x y : Fields) : Bool := x.slots.overlaps y.slots

/-- The windows in a region conflict with a program, in index order; its own window when its two regions meet (R150). -/
def State.regionConflicts (s : State) (p : Program) : List (Fin 16) :=
  (List.finRange 16).filter (fun v =>
    if v = p.window then p.fields.capture.overlaps p.fields.result
    else (s.win v).decodes && p.fields.regionOverlap (s.win v).fields)

/-- The windows in a slot conflict with a program, in index order. -/
def State.slotConflicts (s : State) (p : Program) : List (Fin 16) :=
  (List.finRange 16).filter (fun v =>
    if v = p.window then false else (s.win v).decodes && p.fields.slotOverlap (s.win v).fields)

/-- R150: the cause of a rejection (1 REGION_OVERLAP, 2 SLOT_OVERLAP) with the lowest conflicting window, or none. -/
def State.conflict (s : State) (p : Program) : Option (Nat × Fin 16) :=
  if !p.enable then none
  else
    match s.regionConflicts p with
    | v :: _ => some (1, v)
    | [] =>
      match s.slotConflicts p with
      | v :: _ => some (2, v)
      | [] => none

end Sys2Proof.Machine
end

