-- ==== Sys2Proof/Machine/Completion.lean ====
section
/-! DEFINITION. A completion: result formation (chapter 4), the Limit Monitors (chapter 5), and where the record goes
(R44, R45). -/

namespace Sys2Proof.Machine

/-! ### Result Former -/

/-- A correction entry covers a slot (R68). -/
def Correction.covers (e : Correction) (w : Fin 16) (slot : Nat) : Bool :=
  e.enabled && decide (e.window = w) && decide (e.firstSlot.toNat ≤ slot ∧ slot ≤ e.lastSlot.toNat)

/-- The applying entry: the lowest-numbered enabled one that covers the slot (R68). -/
def State.applying (s : State) (w : Fin 16) (slot : Nat) : Option Correction :=
  s.rf.toList.find? (fun e => e.covers w slot)

/-- The record less its seq, with HIT and REPLACED clear (R65 to R75). -/
def formResult (entry : Option Correction) (x : Fields) (a : Accum) (isPartial : Bool) : Result :=
  let corrected := correctedValue entry (shiftedValue a.sum.toInt x.shift.toNat)
  { value := BitVec.ofInt 32 (clampedValue entry x.format corrected)
    count := a.count
    flags := { valid := true, isPartial := isPartial, sat := satFlag entry x.format corrected, replaced := false, hits := 0 } }

/-! ### Limit Monitors -/

/-- One evaluation in progress: the part, the record with its HIT flags so far, and the lowest WITHHOLD monitor that
fired (R91). -/
structure Eval where
  s : State
  r : Result
  withhold : Option (Fin 4)

/-- Monitor `m` evaluates this window's results: enabled, ARMED, and the window in its mask (R86). -/
def Monitor.evaluates (m : Monitor) (w : Fin 16) : Bool :=
  m.enabled && decide (m.state = .armed) && m.mask.getLsbD w.val

/-- The record with HITm set (R89). -/
def Result.hit (r : Result) (m : Fin 4) : Result :=
  { r with flags := { r.flags with hits := r.flags.hits ||| (1#4 <<< m.val) } }

/-- Monitor `m` fires (R89): HITm, LIMIT, counter 0, and LATCHED under latch; a WITHHOLD monitor withholds (R91). -/
def Eval.fire (e : Eval) (m : Fin 4) (w : Fin 16) (slot : Nat) : Eval :=
  let s1 := e.s.record .limit (some w) (some slot) e.r.value m.val
  let x := s1.mon m
  { s := s1.setMon m
      { x with counters := x.counters.set w.val 0, state := if x.latch then .latched else x.state }
    r := e.r.hit m
    withhold := if x.action = .withhold then some (e.withhold.getD m) else e.withhold }

/-- Monitor `m` takes its turn (R86 to R88). -/
def Eval.turn (w : Fin 16) (slot : Nat) (e : Eval) (m : Fin 4) : Eval :=
  let x := e.s.mon m
  if x.evaluates w then
    if x.isMatch e.r.value then
      if x.counters[w.val] + 1 < x.persistence.toNat then
        { e with s := e.s.setMon m { x with counters := x.counters.set w.val (x.counters[w.val] + 1) } }
      else e.fire m w slot
    else { e with s := e.s.setMon m { x with counters := x.counters.set w.val 0 } }
  else e

/-- The monitors evaluate a result, M0 to M3 in order (R86). -/
def evaluate (s : State) (w : Fin 16) (slot : Nat) (r : Result) : Eval :=
  [0, 1, 2, 3].foldl (Eval.turn w slot) ⟨s, r, none⟩

/-! ### The completion -/

/-- The commit address as an integer, not wrapped (R44, R77). -/
def commitTarget (x : Fields) (slot : Nat) : Nat := x.resultBase.toNat + 8 * slot

/-- The completed context (R44, R45). An unreachable one's address has no meaning (R38; log 12). -/
def completedOf (x : Fields) (a : Accum) (isPartial : Bool) (r : Result) (flushMark : Bool) : Completed where
  acc := a
  isPartial := isPartial
  result := r
  commitAddress := BitVec.ofNat 40 (commitTarget x a.slot)
  unreachable := decide (2 ^ 40 ≤ commitTarget x a.slot)
  flushMark := flushMark

/-- Samples that end without their record entering the Egress Queue are counted (R34). -/
def State.drop (s : State) (w : Fin 16) (n : Nat) : State :=
  s.count w (fun c => { c with dropped := c.dropped + BitVec.ofNat 32 n })

/-- A withheld completion (R45, R91): WITHHELD, then the context is FREE and the drop is counted. -/
def State.withholdResult (s : State) (i : Fin 64) (a : Accum) (r : Result) (m : Fin 4) : State :=
  (((s.record .withheld (some a.window) (some a.slot) (BitVec.ofNat 32 r.count) m.val).setCtx i .free).drop a.window
    a.count).count a.window (fun c => { c with withheld := c.withheld + 1 })

/-- The context becomes COMMITTING at the tail of the Commit List (R45, R46). -/
def State.joinCommitList (s : State) (i : Fin 64) (c : Completed) : State :=
  (s.setCtx i (.committing c)).setCommitList (s.ae.commitList ++ [i])

/-- Context `i`, if OPEN, completes (R44, R45). `flushMark` says that a FLUSH command makes the completion (R58). -/
def State.complete (s : State) (i : Fin 64) (isPartial flushMark : Bool) : State :=
  match s.ctx i with
  | .opened a =>
    let x := (s.win a.window).fields
    let e := evaluate s a.window a.slot (formResult (s.applying a.window a.slot) x a isPartial)
    match e.withhold with
    | some m => e.s.withholdResult i a e.r m
    | none => e.s.joinCommitList i (completedOf x a isPartial e.r flushMark)
  | .free => s
  | .committing _ => s

/-- Several contexts complete one after another (R43, R58, R60, R92). -/
def State.completeAll (s : State) (l : List (Fin 64)) (isPartial flushMark : Bool) : State :=
  l.foldl (fun t i => t.complete i isPartial flushMark) s

end Sys2Proof.Machine
end

