-- ==== Sys2Proof/Machine/Pool.lean ====
section
/-! DEFINITION. The Accumulator Pool: burst acceptance and absorption (R41 to R43), the KEEP run at the head of the
Commit List (R47, R105), and the flush counts (R59). -/

namespace Sys2Proof.Machine

/-! ### Burst acceptance -/

/-- The touched slots of a sample write. -/
def touched (f k : Nat) : List Nat := (List.range k).map (fun j => f + j)

/-- needed: the touched slots that have no OPEN context (R41). -/
def State.needed (s : State) (w : Fin 16) (f k : Nat) : Nat :=
  (touched f k).countP (fun i => (s.lookup w i).isNone)

/-- The dispositions of burst acceptance (1.5); a spill with its cause, 1 POLICY or 2 NO_HOLD (R51). -/
inductive Disposition where
  | absorbed
  | holdExhaustion
  | holdDrain
  | spill (cause : Nat)
deriving DecidableEq, Repr

/-- The window is DRAINING. -/
def WState.isDraining : WState → Bool
  | .disabled => false
  | .opened => false
  | .draining _ => true

/-- R41: the first line of its table that holds. -/
def State.disposition (s : State) (w : Fin 16) (f k : Nat) : Disposition :=
  let n := s.needed w f k
  if (s.win w).state.isDraining && decide (0 < n) then .holdDrain
  else if n ≤ s.freeCount then .absorbed
  else
    match (s.win w).fields.exhaust with
    | .spill => .spill 1
    | .hold => if s.mp.holdLimit ≠ 0 then .holdExhaustion else .spill 2

/-- The lowest-numbered FREE context (R42 allows any; log 4). -/
def State.firstFree (s : State) : Option (Fin 64) := (List.finRange 64).find? (fun i => (s.ctx i).isFree)

/-- A touched slot without an OPEN context is given one, with sum 0 and count 0 (R42). -/
def State.allocate (s : State) (w : Fin 16) (slot : Nat) : State :=
  match s.lookup w slot with
  | some _ => s
  | none =>
    match s.firstFree with
    | some i => s.setCtx i (.opened { window := w, slot := slot, sum := 0, count := 0, lastSampleTime := s.mp.timebase })
    | none => s

/-- A sample is added to the slot's OPEN context (R42). -/
def State.addSample (s : State) (w : Fin 16) (p : Nat × BitVec 48) : State :=
  match s.lookup w p.1 with
  | some i =>
    match s.ctx i with
    | .opened a =>
      s.setCtx i (.opened { a with sum := a.sum + p.2, count := a.count + 1, lastSampleTime := s.mp.timebase })
    | .free => s
    | .committing _ => s
  | none => s

/-- A touched slot's OPEN context, if its count has reached N, completes full (R43). -/
def State.completeIfFull (s : State) (w : Fin 16) (slot : Nat) : State :=
  match s.lookup w slot with
  | some i =>
    match s.ctx i with
    | .opened a => if a.count = (s.win w).fields.ratio.toNat then s.complete i false false else s
    | .free => s
    | .committing _ => s
  | none => s

/-- The allocations of an absorbed write, in ascending slot order (R42). -/
def State.allocateAll (s : State) (w : Fin 16) (l : List (Nat × BitVec 48)) : State :=
  l.foldl (fun t p => t.allocate w p.1) s

/-- The samples of an absorbed write, in ascending slot order (R42). -/
def State.addAll (s : State) (w : Fin 16) (l : List (Nat × BitVec 48)) : State :=
  l.foldl (fun t p => t.addSample w p) s

/-- The full completions of an absorbed write, in ascending slot order (R43). -/
def State.completeFull (s : State) (w : Fin 16) (l : List (Nat × BitVec 48)) : State :=
  l.foldl (fun t p => t.completeIfFull w p.1) s

/-- An absorption (R42, R43): all contexts, then all samples, then absorbed_samples, then the full completions. -/
def State.absorb (s : State) (w : Fin 16) (l : List (Nat × BitVec 48)) : State :=
  (((s.allocateAll w l).addAll w l).count w
    (fun c => { c with absorbed := c.absorbed + BitVec.ofNat 32 l.length })).completeFull w l

/-! ### Leaving the Commit List -/

/-- The flush counts when a COMMITTING context with this flush_mark leaves (R59): flush-outstanding falls, flush-entered
rises when its record entered the Egress Queue, and at 0 FLUSH_DONE is recorded. -/
def State.flushLeave (s : State) (w : Fin 16) (mark entered : Bool) : State :=
  if mark && decide (0 < (s.flushOf w).outstanding) then
    let x : FlushCounts :=
      { outstanding := (s.flushOf w).outstanding - 1
        entered := (s.flushOf w).entered + (if entered then 1 else 0) }
    let t := s.setFlush w x
    if x.outstanding = 0 then t.record .flushDone (some w) none (BitVec.ofNat 32 x.entered) 0 else t
  else s

/-- The Slot Status record of a completed context, by the slot_base in force (R24). -/
def State.statusOf (s : State) (c : Completed) : SlotStatus := s.slotAt (s.slotIndex c.acc.window c.acc.slot)

/-- A completed context at the head is to be discarded under KEEP (R105). -/
def State.keepHit (s : State) (c : Completed) : Bool :=
  decide ((s.win c.acc.window).fields.overrun = .keep) && (s.statusOf c).unread

/-- The KEEP discard of context `i` (R105): overruns and dropped_samples rise, the context is FREE, OVERRUN_KEPT is
recorded with the slot's current seq, and then the flush counts follow (R59; log 9). -/
def State.keepDiscard (s : State) (i : Fin 64) (c : Completed) : State :=
  let w := c.acc.window
  let s1 := ((s.count w (fun x => { x with overruns := x.overruns + 1 })).drop w c.acc.count).setCtx i .free
  (s1.record .overrunKept (some w) (some c.acc.slot) ((s.statusOf c).seq.setWidth 32) 0).flushLeave w c.flushMark false

/-- The head of the Commit List is tested by R105: discarded under KEEP, or left to wait for a grant. -/
def State.keepTest (s : State) : State :=
  match s.ae.commitList with
  | [] => s
  | i :: rest =>
    match s.ctx i with
    | .committing c => if s.keepHit c then (s.setCommitList rest).keepDiscard i c else s
    | .free => s
    | .opened _ => s

/-- That many tests, each of the head as the one before left it. A head that waits stays, so more tests change nothing. -/
def keepTests : Nat → State → State
  | 0, s => s
  | n + 1, s => keepTests n s.keepTest

/-- The run of KEEP discards (R105): the head of the Commit List is tested, and each next head in turn. -/
def State.keepRun (s : State) : State := keepTests s.ae.commitList.length s

end Sys2Proof.Machine
end

