-- ==== Sys2Proof/Machine/Egress.lean ====
section
/-! DEFINITION. The Egress Port: candidates and grants (R120 to R123), issue points (R125), completion of entries
(R129), commit failure (R111, R112), timeout and the response timer (R127, R130). -/

namespace Sys2Proof.Machine

/-! ### Candidates and grants -/

/-- The commit candidate: the head of the Commit List, unless it is to be discarded under KEEP (R120). -/
def State.commitCandidate (s : State) : Option (Fin 64 × Completed) :=
  match s.ae.commitList with
  | [] => none
  | i :: _ =>
    match s.ctx i with
    | .committing c => if s.keepHit c then none else some (i, c)
    | .free => none
    | .opened _ => none

/-- The record that enters for a completed context: REPLACED is set on an overrun under REPLACE (R103, R104). -/
def Completed.entryRecord (c : Completed) (overrun : Bool) : Result :=
  { c.result with flags := { c.result.flags with replaced := c.result.flags.replaced || overrun } }

/-- The COMMIT entry of a completed context (R118). -/
def Completed.entry (c : Completed) (seq : BitVec 8) (index : Nat) (overrun : Bool) : EgressEntry where
  work := .commit
    { window := c.acc.window, slot := c.acc.slot, seq := seq, index := index, unreachable := c.unreachable, stale := false }
  addr := c.commitAddress
  size := 8
  data := recordBytes (c.entryRecord overrun) seq
  be := List.replicate 8 true
  issued := none

/-- The grant of the commit candidate (R103, R104, R123): seq, unread, the COMMIT entry, the counters, the context FREE
and off the list; OVERRUN_REPLACED on an overrun; then the flush counts (R59; log 9). -/
def State.grantCommit (s : State) (i : Fin 64) (c : Completed) : State :=
  let w := c.acc.window
  let index := s.slotIndex w c.acc.slot
  let overrun := (s.slotAt index).unread
  let seq := (s.slotAt index).seq + 1
  let s1 := s.setSlot index ⟨seq, true⟩
  let s2 := s1.setQueue (s1.eg.queue ++ [c.entry seq index overrun])
  let s3 := s2.count w (fun x =>
    { x with
      overruns := if overrun then x.overruns + 1 else x.overruns
      committedRecords := x.committedRecords + 1
      committedSamples := x.committedSamples + BitVec.ofNat 32 c.acc.count })
  let s4 := (s3.setCtx i .free).setCommitList s3.ae.commitList.tail
  let s5 := if overrun then s4.record .overrunReplaced (some w) (some c.acc.slot) (seq.setWidth 32) 0 else s4
  s5.flushLeave w c.flushMark true

/-- The entry of an ingress request (R122), carried exactly as it was accepted (R118). -/
def Offer.entry (o : Offer) : EgressEntry where
  work :=
    match o.req.kind with
    | .read => .passRead o.link
    | .write => .passWrite o.link
  addr := o.req.addr
  size := o.req.size
  data := o.req.data
  be := o.req.be
  issued := none

/-- Consumption (R108): the unread flag of every index becomes no. -/
def State.consume (s : State) (l : List Nat) : State :=
  l.foldl (fun t i => t.setSlot i { t.slotAt i with unread := false }) s

/-- The grant of an ingress candidate (R122): the entry, consumption for a READ, and intake OPEN. -/
def State.grantIngress (s : State) (o : Offer) : State :=
  let s1 := s.setQueue (s.eg.queue ++ [o.entry])
  let s2 :=
    match o.req.kind with
    | .read => s1.consume (s.consumed o.req)
    | .write => s1
  s2.setIntake .opened

/-! ### Failure, issue points -/

/-- A failed COMMIT entry (R112): unread becomes no when the entry is not stale and its index still shows its seq. -/
def State.commitFailure (s : State) (l : CommitLink) : State :=
  if !l.stale && decide ((s.slotAt l.index).seq = l.seq) then
    s.setSlot l.index { s.slotAt l.index with unread := false }
  else s

/-- COMMIT_ERROR, then the failure (R111, R112). `aux` is 1 MEMORY_ERROR or 2 UNREACHABLE. -/
def State.commitError (s : State) (l : CommitLink) (aux : Nat) : State :=
  (s.record .commitError (some l.window) (some l.slot) (l.seq.setWidth 32) aux).commitFailure l

/-- Unreachable COMMIT entries at their issue point complete with ERROR, one after another (R125). -/
def issuePointsFuel : Nat → State → State
  | 0, s => s
  | n + 1, s =>
    match s.oldestWaiting with
    | none => s
    | some e =>
      match e.work with
      | .commit l =>
        if l.unreachable then issuePointsFuel n ((s.setQueue (dropOldestWaiting s.eg.queue)).commitError l 2) else s
      | .passRead _ => s
      | .passWrite _ => s

/-- Every unreachable COMMIT entry that is the oldest WAITING entry, or becomes it, leaves (R125). -/
def State.issuePoints (s : State) : State := issuePointsFuel s.eg.queue.length s

/-! ### Completion by response and by timeout -/

/-- The request kind code of a MEMORY_TIMEOUT record (R133). -/
def EgressWork.code : EgressWork → Nat
  | .passRead _ => 1
  | .passWrite _ => 2
  | .commit _ => 3

/-- A response completes the oldest ISSUED entry `e` (R12, R129). -/
def State.completeEntry (s : State) (e : EgressEntry) (status : LinkStatus) (data : Lanes) : State :=
  let s1 := s.setQueue (dropOldestIssued s.eg.queue)
  match e.work with
  | .passRead rol =>
    match status with
    | .ok => s1.rolReady rol .ok (fromLanes data (laneOf e.addr) e.size)
    | .error => s1.rolReady rol .error []
  | .passWrite rol => s1.rolReady rol status []
  | .commit l =>
    match status with
    | .ok => s1
    | .error => s1.commitError l 1

/-- The timeout of the oldest ISSUED entry `e` (R130, R133): removed with ERROR, abandoned, MEMORY_TIMEOUT. -/
def State.timeoutEntry (s : State) (e : EgressEntry) : State :=
  let s1 := s.setQueue (dropOldestIssued s.eg.queue)
  let s2 := s1.setAbandoned (s1.eg.abandoned + 1)
  match e.work with
  | .passRead rol => (s2.record .memoryTimeout none none (low32 e.addr) e.work.code).rolReady rol .error []
  | .passWrite rol => (s2.record .memoryTimeout none none (low32 e.addr) e.work.code).rolReady rol .error []
  | .commit l =>
    (s2.record .memoryTimeout (some l.window) (some l.slot) (l.seq.setWidth 32) e.work.code).commitFailure l

/-- The response timer replaced. -/
def State.setRespTimer (s : State) (t : Option (BitVec 16)) : State := { s with eg := { s.eg with timer := t } }

/-- The time passed since an entry's issue (R127). -/
def EgressEntry.age (e : EgressEntry) (now : Time) : Nat :=
  match e.issued with
  | some t0 => elapsed now t0
  | none => 0

/-- The response timer starts for the oldest ISSUED entry with the limit now in force; an entry whose limit has already
passed expires in the same event, and the test is made again (R127). -/
def startTimerFuel : Nat → State → State
  | 0, s => s.setRespTimer none
  | n + 1, s =>
    match s.oldestIssued with
    | none => s.setRespTimer none
    | some e =>
      if s.mp.responseLimit.toNat ≤ e.age s.mp.timebase then startTimerFuel n (s.timeoutEntry e)
      else s.setRespTimer (some s.mp.responseLimit)

/-- The response timer starts for the oldest ISSUED entry, or stops when there is none (R127). -/
def State.startTimer (s : State) : State := startTimerFuel (s.eg.queue.length + 1) s

end Sys2Proof.Machine
end

