-- ==== Sys2Proof/Machine/Programs.lean ====
section
/-! DEFINITION. The Program Applier: apply and rejection (R150, R151), head processing (R140), the drain (R142 to R146)
and the cut-over (R148). -/

namespace Sys2Proof.Machine

/-- The persistence counter for window `w` of each ARMED monitor becomes 0 (R96). -/
def State.applyMonitors (s : State) (w : Fin 16) : State :=
  { s with lm := mapV (fun m => if m.state = .armed then { m with counters := m.counters.set w.val 0 } else m) s.lm }

/-- The Slot Status indices that applying `p` resets: w's old range when it was OPEN or DRAINING, and the new range when
`p` leaves it OPEN (R114). -/
def State.resetByApply (s : State) (p : Program) (i : Nat) : Bool :=
  ((s.win p.window).decodes && (s.win p.window).fields.slots.has i) || (p.enable && p.fields.slots.has i)

/-- A program that passed the comparison is applied (R151); `rest` is the Stage Queue behind it, `route` the aux. -/
def State.applyProgram (s : State) (p : Program) (rest : List Program) (route : Nat) : State :=
  let w := p.window
  let s1 := s.resetSlots (s.resetByApply p)
  let s2 := s1.setWin w
    { state := if p.enable then .opened else .disabled, fields := p.fields, counters := Counters.zero }
  let s3 := s2.applyMonitors w
  (s3.record .programApplied (some w) none (if p.enable then 1 else 0) route).setStage rest

/-- A program that failed the comparison is rejected (R150): a DRAINING window returns to OPEN. -/
def State.rejectProgram (s : State) (p : Program) (rest : List Program) (cause : Nat) (v : Fin 16) : State :=
  let w := p.window
  let s1 := s.record .programRejected (some w) none (BitVec.ofNat 32 v.val) cause
  let s2 := s1.setWinState w (if (s.win w).state.isDraining then .opened else (s.win w).state)
  (s2.setDrainTimer none).setStage rest

/-- The apply of the head program (R150, R151). -/
def State.applyHead (s : State) (p : Program) (rest : List Program) (route : Nat) : State :=
  match s.conflict p with
  | some (cause, v) => s.rejectProgram p rest cause v
  | none => s.applyProgram p rest route

/-- A window becomes DRAINING, sub-state NORMAL, and the drain timer starts (R142, R143). -/
def State.startDrain (s : State) (w : Fin 16) : State :=
  (s.setWinState w (.draining .normal)).setDrainTimer (some ⟨s.mp.timebase, s.mp.drainLimit⟩)

/-- Context `i` of window `w`, whatever its state, is freed and its count dropped (R61). -/
def State.discard (s : State) (w : Fin 16) (i : Fin 64) : State :=
  match (s.ctx i).acc? with
  | some a => if a.window = w then (s.setCtx i .free).drop w a.count else s
  | none => s

/-- A context of window `w` whose record a FLUSH marked (R59). -/
def Context.marked (c : Context) (w : Fin 16) : Bool :=
  match c with
  | .committing x => x.flushMark && decide (x.acc.window = w)
  | .free => false
  | .opened _ => false

/-- The flush counts when `n` marked contexts of `w` are discarded together (R59, R61): FLUSH_DONE when a decrease brings
flush-outstanding to 0. -/
def State.flushDiscard (s : State) (w : Fin 16) (n : Nat) : State :=
  let x := s.flushOf w
  if 0 < n ∧ 0 < x.outstanding then
    let t := s.setFlush w { x with outstanding := x.outstanding - n }
    if x.outstanding - n = 0 then t.record .flushDone (some w) none (BitVec.ofNat 32 x.entered) 0 else t
  else s

/-- The cut-over of window `w` up to the apply (R61, R148 steps 1 to 4). -/
def State.cutOver (s : State) (w : Fin 16) : State :=
  let n := s.ae.pool.toList.countP (fun c => c.inWindow w)
  let marks := s.ae.pool.toList.countP (fun c => c.marked w)
  let s1 := s.setCommitList (s.ae.commitList.filter (fun i => !(s.ctx i).inWindow w))
  let s2 := (List.finRange 64).foldl (fun t i => t.discard w i) s1
  let s3 := s2.record .contextsDiscarded (some w) none (BitVec.ofNat 32 n) 3
  (s3.flushDiscard w marks).keepRun

/-- Head processing (R140) of a Stage Queue, program by program, until one drains its window or none is left (R153). -/
def processHeads : List Program → State → State
  | [], s => s.setStage []
  | p :: rest, s =>
    let t := s.setStage (p :: rest)
    if !(t.win p.window).decodes || !t.holdsContexts p.window then processHeads rest (t.applyHead p rest 1)
    else
      match (t.win p.window).fields.switch with
      | .continue => t.startDrain p.window
      | .restart => processHeads rest ((t.cutOver p.window).applyHead p rest 4)

/-- The route by which a completed drain is applied: 2 DRAINED, 3 FORCED (R151). -/
def WState.route : WState → Nat
  | .draining .forced => 3
  | .draining .normal => 2
  | .opened => 2
  | .disabled => 2

/-- The end of a drain (R144 to R146): when the head's DRAINING window holds no context, the timer is cancelled, the
program is applied, and the next heads are processed. -/
def State.finishDrain (s : State) : State :=
  match s.pa.stage with
  | [] => s
  | p :: rest =>
    if (s.win p.window).state.isDraining && !s.holdsContexts p.window then
      processHeads rest ((s.setDrainTimer none).applyHead p rest (s.win p.window).state.route)
    else s

/-- Whether the head's DRAINING window holds no context, so that finishDrain acts. -/
def State.drainEnds (s : State) : Bool :=
  match s.pa.stage with
  | [] => false
  | p :: _ => (s.win p.window).state.isDraining && !s.holdsContexts p.window

end Sys2Proof.Machine
end

