-- ==== Sys2Proof/Machine/Ingress.lean ====
section
/-! DEFINITION. The Ingress Port: classification (R5 to R9, R11), the held request and its release (R14, R15, R48), and
what every event that changes the pool does at its end. -/

namespace Sys2Proof.Machine

/-- After an event's own changes to the pool: the KEEP run, then the end of a drain ("The apply follows every other
change that the event made", R144). -/
def State.afterPool (s : State) : State := s.keepRun.finishDrain

/-- A request that is refused (R1, R6, R8): its ROL entry is READY with ERROR, its event is recorded, intake OPEN. -/
def State.refuse (s : State) (r : Request) (link : Nat) (kind : EventKind) (d : Option Decoded) (aux : Nat) : State :=
  (((s.record kind (d.map (·.window)) (d.map (·.slot)) (low32 r.addr) aux).rolReady link .error []).setIntake .opened)

/-- A request that becomes IG's offered request (R9). -/
def State.offer (s : State) (r : Request) (link : Nat) : State := s.setIntake (.offering ⟨r, link⟩)

/-- A spill (R51): spilled_requests rises, SPILL is recorded, and the write is offered unchanged (R11). -/
def State.spill (s : State) (r : Request) (link : Nat) (w : Fin 16) (f k cause : Nat) : State :=
  ((s.count w (fun c => { c with spilled := c.spilled + 1 })).record .spill (some w) (some f) (BitVec.ofNat 32 k)
    cause).offer r link

/-- A sample write handed to AE (R11, R41). `kept` is the hold timer that goes on running when the request is held for
EXHAUSTION once more (R15, R50). -/
def State.takeSamples (s : State) (r : Request) (link : Nat) (d : Decoded) (kept : Option Timer) : State :=
  let w := d.window
  let x := (s.win w).fields
  let k := r.size / x.format.width
  match s.disposition w d.slot k with
  | .absorbed =>
    (((s.setIntake .opened).rolReady link .ok []).absorb w (samplesOf x.format r.data d.slot k)).afterPool
  | .holdExhaustion =>
    (s.setHoldTimer (some (kept.getD ⟨s.mp.timebase, s.mp.holdLimit⟩))).setIntake
      (.holding ⟨r, link, .exhaustion, w, d.slot, k⟩)
  | .holdDrain => s.setIntake (.holding ⟨r, link, .drain, w, d.slot, k⟩)
  | .spill cause => s.spill r link w d.slot k cause

/-- IG sorts a request and acts on the outcome, on its ROL entry `link` (R1, R5, R11). -/
def State.classify (s : State) (r : Request) (link : Nat) (kept : Option Timer) : State :=
  match s.sort r with
  | .violation cause => s.refuse r link .malformed none cause
  | .resultWrite d => s.refuse r link .resultWriteRefused (some d) 0
  | .malformed d cause => s.refuse r link .malformed (some d) cause
  | .sampleWrite d => s.takeSamples r link d kept
  | .passThrough => s.offer r link

/-- The hold timer that a renewed EXHAUSTION hold keeps (R15): the running one, when the reason was EXHAUSTION. -/
def State.keptTimer (s : State) (h : Held) : Option Timer :=
  match h.reason with
  | .exhaustion => s.ae.holdTimer
  | .drain => none

/-- The release of the held request, if any (R15): it is sorted from scratch, and any outcome but a renewed EXHAUSTION
hold cancels the hold timer. -/
def State.release (s : State) : State :=
  match s.ig.intake with
  | .opened => s
  | .offering _ => s
  | .holding h => (s.setHoldTimer none).classify h.req h.link (s.keptTimer h)

/-- The end of an event that may have freed contexts (R48, R144, R153): the KEEP run and the end of a drain, then one
release of the held request when a context became FREE since `before`, or a program was applied or rejected. -/
def State.settle (before s : State) : State :=
  let t := s.keepRun
  if t.drainEnds || decide (before.freeCount < t.freeCount) then t.finishDrain.release else t

end Sys2Proof.Machine
end

