-- ==== Sys2Proof/Machine/Management.lean ====
section
/-! DEFINITION. The Management Port: the select period and the transaction (R173 to R177), and the fourteen commands with their replies. -/

namespace Sys2Proof.Machine

/-! ### The effects of the commands: the part after the command, and its reply -/

/-- IDENT (R179). -/
def identEffect (_args : List Byte) (s : State) : State × Reply := (s, Reply.okay identBytes)

/-- READ_TIME (R187). -/
def readTimeEffect (_args : List Byte) (s : State) : State × Reply := (s, Reply.okay (leBytes s.mp.timebase.toNat 4))

/-- A program joins the Stage Queue; at an empty queue it is the head and is processed in the same event, and the held
request is released once (R139, R140, R153). -/
def State.stageProgram (s : State) (p : Program) : State :=
  match s.pa.stage with
  | [] => (processHeads [p] s).release
  | q :: qs => s.setStage (q :: qs ++ [p])

/-- STAGE (R138, R139): the checks, BADARG before QFULL, then the position at which the program joined. -/
def stageEffect (args : List Byte) (s : State) : State × Reply :=
  match stagedProgram args with
  | none => (s, Reply.plain .badArg)
  | some p =>
    if s.pa.stage.length < Config.stageQueue then (s.stageProgram p, Reply.okay (leBytes (s.pa.stage.length + 1) 1))
    else (s, Reply.plain .qFull)

/-- The programs for window `w` leave the Stage Queue (R154); when the head is one of them, its drain ends, its window is
OPEN again, the next head is processed and the held request is released once (R155). -/
def State.withdrawAll (s : State) (w : Fin 16) : State :=
  let rest := s.pa.stage.filter (fun p => decide (p.window ≠ w))
  match s.pa.stage with
  | [] => s
  | p :: _ =>
    if p.window = w then
      let s1 := s.setDrainTimer none
      let s2 := if (s1.win w).state.isDraining then s1.setWinState w .opened else s1
      (processHeads rest s2).release
    else s.setStage rest

/-- WITHDRAW (R154): the number removed. -/
def withdrawEffect (args : List Byte) (s : State) : State × Reply :=
  match windowArg (byteAt args 0) with
  | none => (s, Reply.plain .badArg)
  | some w => (s.withdrawAll w, Reply.okay (leBytes (s.pa.stage.countP (fun p => decide (p.window = w))) 1))

/-- The completions of an accepted FLUSH, the flush counts they set, and FLUSH_DONE when there is none (R58; log 8). -/
def State.flushWindow (s : State) (w : Fin 16) : State :=
  let s1 := s.completeAll (s.openInOrder w) true true
  let n := s1.ae.commitList.length - s.ae.commitList.length
  let s2 := s1.setFlush w ⟨n, 0⟩
  State.settle s (if n = 0 then s2.record .flushDone (some w) none 0 0 else s2)

/-- FLUSH (R57): ACCEPTED, BUSY or BADARG. -/
def flushEffect (args : List Byte) (s : State) : State × Reply :=
  match windowArg (byteAt args 0) with
  | none => (s, Reply.plain .badArg)
  | some w =>
    if !(s.win w).decodes then (s, Reply.plain .badArg)
    else if 0 < (s.flushOf w).outstanding then (s, Reply.plain .busy)
    else (s.flushWindow w, Reply.plain .accepted)

/-- QUERY_WINDOW (R181). -/
def queryWindowEffect (args : List Byte) (s : State) : State × Reply :=
  match windowArg (byteAt args 0) with
  | none => (s, Reply.plain .badArg)
  | some w => (s, Reply.okay (s.windowBytes w))

/-- QUERY_POOL (R184). -/
def queryPoolEffect (_args : List Byte) (s : State) : State × Reply := (s, Reply.okay s.poolBytes)

/-- SET_CORRECTION (R79, R182). -/
def setCorrectionEffect (args : List Byte) (s : State) : State × Reply :=
  match correctionArg args with
  | none => (s, Reply.plain .badArg)
  | some (i, e) => ({ s with rf := s.rf.set i.val e }, Reply.okay [])

/-- SET_MONITOR (R94, R182). -/
def setMonitorEffect (args : List Byte) (s : State) : State × Reply :=
  match monitorArg args with
  | none => (s, Reply.plain .badArg)
  | some (m, x) => (s.setMon m x, Reply.okay [])

/-- The code of a monitor's state in the RELEASE_MONITOR reply (R182). -/
def MonitorState.code : MonitorState → Nat
  | .armed => 0
  | .latched => 1

/-- A monitor released: ARMED, its 16 counters 0 (R95). -/
def Monitor.released (x : Monitor) : Monitor := { x with state := .armed, counters := Vector.replicate 16 0 }

/-- RELEASE_MONITOR (R95, R182): the state before the command. -/
def releaseMonitorEffect (args : List Byte) (s : State) : State × Reply :=
  match monitorIndex (byteAt args 0) with
  | none => (s, Reply.plain .badArg)
  | some m => (s.setMon m (s.mon m).released, Reply.okay (leBytes (s.mon m).state.code 1))

/-- The Event Queue after a POP of its head (R162, R164): with a lost count above 0, EVENTS_LOST takes the freed position
and the count is 0. -/
def EQ.pop (q : EQ) (now : Time) : EQ :=
  let lostRecord : EventRecord :=
    { kind := .eventsLost, cls := .system, window := none, slot := none, timestamp := now, detail := q.lost.setWidth 32,
      aux := 0 }
  EQ.evalAlert
    (if q.lost = 0 then { q with events := q.events.tail }
     else { q with events := q.events.tail ++ [lostRecord], lost := 0 })

/-- POP_EVENT (R162 to R164, R183). -/
def popEventEffect (_args : List Byte) (s : State) : State × Reply :=
  match s.evq.events with
  | [] => (s, Reply.plain .empty)
  | r :: _ => ({ s with evq := s.evq.pop s.mp.timebase }, Reply.okay r.bytes)

/-- EVENT_STATUS (R166, R183). -/
def eventStatusEffect (_args : List Byte) (s : State) : State × Reply :=
  (s, Reply.okay (leBytes s.evq.events.length 1 ++ leBytes s.evq.lost.toNat 2))

/-- SET_TIMERS (R189): the limits and the alert mask, and ALERT# evaluated again. -/
def setTimersEffect (args : List Byte) (s : State) : State × Reply :=
  match timerArg args with
  | none => (s, Reply.plain .badArg)
  | some t =>
    ({ s with
       mp := { s.mp with holdLimit := t.hold, drainLimit := t.drain, responseLimit := t.response }
       evq := EQ.evalAlert { s.evq with mask := t.mask } },
     Reply.okay (timerBytes t.hold t.drain t.response t.mask))

/-- A window after an engine reset (R37, R157): counters 0, DRAINING becomes OPEN. -/
def Window.engineReset (x : Window) : Window :=
  { x with state := if x.state.isDraining then .opened else x.state, counters := Counters.zero }

/-- Steps 2 to 6 of R185: pool (R64), Slot Status (R115), counters and window states (R31, R157), monitors (R97), Stage
Queue and drain timer (R157). -/
def State.engineResetBlocks (s : State) : State :=
  let s1 := { s with ae := AE.reset }
  let s2 := s1.resetSlots (fun _ => true)
  { s2 with
    wt := mapV Window.engineReset s2.wt
    lm := mapV Monitor.released s2.lm
    pa := { stage := [], drainTimer := none } }

/-- ENGINE_RESET (R185): the values taken first, the blocks, the ENGINE_RESET record (R169), the release (R18), the
reply. -/
def engineResetEffect (_args : List Byte) (s : State) : State × Reply :=
  let contexts := s.openCount + s.committingCount
  let programs := s.pa.stage.length
  ((s.engineResetBlocks.record .engineReset none none (BitVec.ofNat 32 contexts) programs).release,
   Reply.okay (leBytes contexts 1 ++ leBytes programs 1))

/-! ### The transaction -/

/-- The part while the transaction's bytes are collected: RECEIVING, the stored reply discarded (R173, R174), and MDO
carrying 0 bits throughout (R172). -/
def State.receive (s : State) (code : Byte) (mdi : List Bool) : State :=
  (s.setPort (.receiving (keptBytes code mdi))).driveMdo (List.replicate (8 + mdi.length) false)

/-- The reply is stored (R174). -/
def State.store (s : State) (r : Reply) : State := s.setPort (.responseReady r)

/-- A command transaction (R173 to R175): the frame is judged when MCS# rises; a refused one has no effect on any block,
and the reply is stored in either case. -/
def State.transact (s : State) (code : Byte) (mdi : List Bool) (effect : List Byte → State → State × Reply) : State :=
  let t := (s.receive code mdi).floatMdo
  match judge (keptBytes code mdi) with
  | .badFrame => t.store (Reply.plain .badFrame)
  | .badCrc => t.store (Reply.plain .badCrc)
  | .badCmd => t.store (Reply.plain .badCmd)
  | .badArg => t.store (Reply.plain .badArg)
  | .run args => (effect args t).1.store (effect args t).2

/-- The reply a response read sends: the stored one, or NONE (R177). -/
def State.readReply (s : State) : Reply :=
  match s.mp.port with
  | .responseReady r => r
  | .idle => Reply.plain .none
  | .receiving _ => Reply.plain .none

/-- What MDO carries in a response read of `n` clocks after the byte 0x00 (R172, R177): 0 bits for the first byte, then
the reply's bytes, then 0 bits for as long as the supervisor clocks. -/
def State.readBits (s : State) (n : Nat) : List Bool :=
  let bits := wire s.readReply.bytes
  List.replicate 8 false ++ bits.take n ++ List.replicate (n - bits.length) false

/-- A response read (R177): only MDO moves, and floats again when MCS# has risen (R202). -/
def State.responseRead (s : State) (n : Nat) : State := (s.driveMdo (s.readBits n)).floatMdo

/-- The effect of a command code (10.4). -/
def commandEffect (code : Byte) : List Byte → State → State × Reply :=
  if code = 0x01 then identEffect
  else if code = 0x02 then readTimeEffect
  else if code = 0x10 then stageEffect
  else if code = 0x11 then withdrawEffect
  else if code = 0x12 then flushEffect
  else if code = 0x13 then queryWindowEffect
  else if code = 0x14 then queryPoolEffect
  else if code = 0x20 then setCorrectionEffect
  else if code = 0x21 then setMonitorEffect
  else if code = 0x22 then releaseMonitorEffect
  else if code = 0x30 then popEventEffect
  else if code = 0x31 then eventStatusEffect
  else if code = 0x40 then setTimersEffect
  else if code = 0x41 then engineResetEffect
  else fun _ s => (s, Reply.plain .badCmd)

/-- A transaction by its first complete byte (R173). -/
def State.transaction (s : State) (code : Byte) (mdi : List Bool) : State :=
  if code = 0 then s.responseRead mdi.length else s.transact code mdi (commandEffect code)

/-- A select period in which no byte is complete is no transaction (R173): MDO carries 0 bits, as in any first byte period
(R172; log 7). Bits that make a byte do what they say on the wire (log 20). -/
def State.shortPeriod (s : State) (mdi : List Bool) : State :=
  match completeBytes mdi with
  | [] => (s.driveMdo (List.replicate mdi.length false)).floatMdo
  | code :: _ => s.transaction code (mdi.drop 8)

/-- What a row of the port does: `f`; but of a select period that a reset overtook, which is not taken, the row is only
the end, the rise of MCS# (R173, R197). MCS# is an input, so it rises whether or not a reset still holds the part; while
one does, the port ignores every select period (R198). -/
def State.selected (s : State) (f : State → State) : State :=
  if s.mcsLow then s.setMcsLow false else s.active f

/-- MCS# is low in a reset, and stays low until the row of the port that ends the select period (R173). With no reset
holding the part there is no such period (log 2). -/
def State.beginPeriod (s : State) : State := if s.running then s else s.setMcsLow true

/-! ### The meanings -/

/-- IDENT. -/
def execIdent (mdi : List Bool) (s : State) : Host.Outcome State Fault Refusal :=
  .next (s.selected (·.transact 0x01 mdi identEffect))

/-- READ_TIME. -/
def execReadTime (mdi : List Bool) (s : State) : Host.Outcome State Fault Refusal :=
  .next (s.selected (·.transact 0x02 mdi readTimeEffect))

/-- STAGE. -/
def execStage (mdi : List Bool) (s : State) : Host.Outcome State Fault Refusal :=
  .next (s.selected (·.transact 0x10 mdi stageEffect))

/-- WITHDRAW. -/
def execWithdraw (mdi : List Bool) (s : State) : Host.Outcome State Fault Refusal :=
  .next (s.selected (·.transact 0x11 mdi withdrawEffect))

/-- FLUSH. -/
def execFlush (mdi : List Bool) (s : State) : Host.Outcome State Fault Refusal :=
  .next (s.selected (·.transact 0x12 mdi flushEffect))

/-- QUERY_WINDOW. -/
def execQueryWindow (mdi : List Bool) (s : State) : Host.Outcome State Fault Refusal :=
  .next (s.selected (·.transact 0x13 mdi queryWindowEffect))

/-- QUERY_POOL. -/
def execQueryPool (mdi : List Bool) (s : State) : Host.Outcome State Fault Refusal :=
  .next (s.selected (·.transact 0x14 mdi queryPoolEffect))

/-- SET_CORRECTION. -/
def execSetCorrection (mdi : List Bool) (s : State) : Host.Outcome State Fault Refusal :=
  .next (s.selected (·.transact 0x20 mdi setCorrectionEffect))

/-- SET_MONITOR. -/
def execSetMonitor (mdi : List Bool) (s : State) : Host.Outcome State Fault Refusal :=
  .next (s.selected (·.transact 0x21 mdi setMonitorEffect))

/-- RELEASE_MONITOR. -/
def execReleaseMonitor (mdi : List Bool) (s : State) : Host.Outcome State Fault Refusal :=
  .next (s.selected (·.transact 0x22 mdi releaseMonitorEffect))

/-- POP_EVENT. -/
def execPopEvent (mdi : List Bool) (s : State) : Host.Outcome State Fault Refusal :=
  .next (s.selected (·.transact 0x30 mdi popEventEffect))

/-- EVENT_STATUS. -/
def execEventStatus (mdi : List Bool) (s : State) : Host.Outcome State Fault Refusal :=
  .next (s.selected (·.transact 0x31 mdi eventStatusEffect))

/-- SET_TIMERS. -/
def execSetTimers (mdi : List Bool) (s : State) : Host.Outcome State Fault Refusal :=
  .next (s.selected (·.transact 0x40 mdi setTimersEffect))

/-- ENGINE_RESET. -/
def execEngineReset (mdi : List Bool) (s : State) : Host.Outcome State Fault Refusal :=
  .next (s.selected (·.transact 0x41 mdi engineResetEffect))

/-- UNKNOWN_COMMAND (R175): the frame is refused and the refusing reply is stored. A frame that is not of this row does
what its bytes say on the wire (log 20). -/
def execUnknownCommand (code : Byte) (mdi : List Bool) (s : State) : Host.Outcome State Fault Refusal :=
  .next (s.selected (·.transaction code mdi))

/-- RESPONSE_READ (R173, R177): only MDO moves, or the level of MCS#. -/
def execResponseRead (period : ReadPeriod) (s : State) : Host.Outcome State Fault Refusal :=
  match period with
  | .read mdi => .next (s.selected (·.responseRead mdi.length))
  | .short mdi => .next (s.selected (·.shortPeriod mdi))
  | .begun => .next s.beginPeriod

end Sys2Proof.Machine
end

