-- ==== Sys2Proof/Machine/Resets.lean ====
section
/-! DEFINITION. The timebase and the resets of the whole part (R187, R197 to R199). -/

namespace Sys2Proof.Machine

/-- Every block in its reset state, held or released (R17, R37, R63, R82, R98, R115, R136, R158, R170, R190). What is not
the part's own stays: the level of MCS#, which is an input, the commands that wait, and the index of the next free value
(log 18). -/
def State.resetBlocks (s : State) (hold : ResetHold) : State :=
  { State.reset with hold := hold, mcsLow := s.mcsLow, freeIdx := s.freeIdx, pending := s.pending }

/-- 25 REFCLK periods (R187): the timebase counts, or, in a reset, holds at 0 while a power-on reset runs on (R198, R199). -/
def State.tick (s : State) : State :=
  match s.hold with
  | .running => { s with mp := { s.mp with timebase := s.mp.timebase + 1 } }
  | .held n => { s with hold := .held (n - Config.refclkPerTick) }

/-- TIMEBASE_TICK. -/
def execTimebaseTick (s : State) : Host.Outcome State Fault Refusal := .next s.tick

/-- POWER_ON_RESET (R199): the whole part is in reset, and for what is left of 1024 REFCLK periods it stays so. -/
def execPowerOnReset (refclk : Nat) (s : State) : Host.Outcome State Fault Refusal :=
  .next (s.resetBlocks (.held (Config.powerOnPeriods - refclk)))

/-- RST# taken (R198): the part is in reset; a power-on reset that lasts goes on lasting. -/
def State.takeRst (s : State) : State :=
  match s.hold with
  | .running => s.resetBlocks (.held 0)
  | .held n => s.resetBlocks (.held n)

/-- RST_ASSERT (R198, R199): taken when it has been low for 10 REFCLK periods; of a shorter pulse a free value says
whether it has no effect or the full effect (log 11). -/
def execRstAssert (low : Nat) (s : State) : Host.Outcome State Fault Refusal :=
  if Config.rstPeriods ≤ low then .next s.takeRst
  else
    let t := { s with freeIdx := s.freeIdx + 1 }
    if Config.shortRstTaken s.freeIdx then .next t.takeRst else .next t

/-- The release of a reset (R197): every block starts from its reset state, once a power-on reset has run its periods;
with MCS# low the port waits for its rise (R173). -/
def State.releaseReset (s : State) : State :=
  match s.hold with
  | .running => s
  | .held 0 => s.resetBlocks .running
  | .held (_ + 1) => s

/-- RESET_RELEASE. -/
def execResetRelease (s : State) : Host.Outcome State Fault Refusal := .next s.releaseReset

end Sys2Proof.Machine
end

