-- ==== Sys2Proof/Machine/Traffic.lean ====
section
/-! DEFINITION. The meanings of the rows of the memory link, the arbiter and the timers. A row whose condition does not
hold does not take place: the state stays as it is (log 2). -/

namespace Sys2Proof.Machine

/-! ### Ingress -/

/-- IG accepts a request (R2, R3): a WAITING entry at the tail of the ROL, and classification in the same event. -/
def State.accept (s : State) (r : Request) : State :=
  let entry : RolEntry :=
    { link := s.ig.nextLink, kind := r.kind, size := r.size, lane := laneOf r.addr, state := .waiting }
  let t := { s with ig := { s.ig with rol := s.ig.rol ++ [entry], nextLink := s.ig.nextLink + 1 } }
  t.classify r s.ig.nextLink none

/-- A request at an edge of the ingress request channel: accepted when IGQ_READY is high, else left there (R200; log 5). -/
def State.present (s : State) (r : Request) : State := if s.igqReady then s.accept r else s

/-- INGRESS_REQUEST. -/
def execIngressRequest (kind : LinkKind) (addr : Addr) (size : BitVec 7) (data : Lanes) (be : BitVec 64) (s : State) :
    Host.Outcome State Fault Refusal :=
  .next (s.active (·.present (linkRequest kind addr size data be)))

/-- The response a ROL entry drives on the ingress response channel (R13, R201): its data on the lanes of its bytes. -/
def RolEntry.response (e : RolEntry) (status : LinkStatus) (data : List Byte) : IgResponse where
  status := status
  data :=
    match e.kind, status with
    | .read, .ok => toLanes e.lane data
    | .read, .error => toLanes 0 []
    | .write, _ => toLanes 0 []

/-- The LCLK period of a delivery (R13, R200): the head's response is sent, with IGR_VALID high, and the entry removed. -/
def State.sendHead (s : State) (rest : List RolEntry) (r : IgResponse) : State :=
  State.raiseIgr { s with ig := { s.ig with rol := rest } } r

/-- The response of a READY head is sent, and its LCLK period ends; a WAITING head or an empty list delivers nothing
(R13, R200). -/
def State.deliver (s : State) : State :=
  match s.ig.rol with
  | [] => s
  | e :: rest =>
    match e.state with
    | .waiting => s
    | .ready status data => (s.sendHead rest (e.response status data)).lowerIgr

/-- DELIVER_RESPONSE. -/
def execDeliverResponse (s : State) : Host.Outcome State Fault Refusal := .next (s.active State.deliver)

/-! ### Timers of the pool and the applier -/

/-- The hold timer of a request held for EXHAUSTION expires (R16, R52): it leaves the slot without reclassification and
spills with cause AFTER_HOLD. -/
def State.holdExpiry (s : State) : State :=
  match s.ig.intake, s.ae.holdTimer with
  | .holding h, some t =>
    if h.reason = .exhaustion ∧ t.due s.mp.timebase then
      (s.setHoldTimer none).spill h.req h.link h.window h.slot h.samples 3
    else s
  | .holding _, none => s
  | .opened, _ => s
  | .offering _, _ => s

/-- HOLD_TIMER_EXPIRY. -/
def execHoldTimerExpiry (s : State) : Host.Outcome State Fault Refusal := .next (s.active State.holdExpiry)

/-- The expired OPEN context `i` (R54, R55): completed partial, or discarded with CONTEXTS_DISCARDED cause IDLE. -/
def State.idleEnd (s : State) (i : Fin 64) (a : Accum) : State :=
  match (s.win a.window).fields.idleAction with
  | .flushPartial => s.complete i true false
  | .discard =>
    (((s.setCtx i .free).drop a.window a.count).record .contextsDiscarded (some a.window) (some a.slot) 1 1)

/-- The idle interval of an OPEN context has passed (R53): only with idle_limit above 0. -/
def State.idleDue (s : State) (a : Accum) : Bool :=
  let limit := (s.win a.window).fields.idleLimit
  decide (limit ≠ 0) && (Timer.mk a.lastSampleTime limit).due s.mp.timebase

/-- The idle expiry of the OPEN context of a key (R53 to R56). -/
def State.idleExpiry (s : State) (w : Fin 16) (slot : Nat) : State :=
  match s.lookup w slot with
  | none => s
  | some i =>
    match s.ctx i with
    | .opened a => if s.idleDue a then State.settle s (s.idleEnd i a) else s
    | .free => s
    | .committing _ => s

/-- IDLE_EXPIRY. -/
def execIdleExpiry (window : Fin 16) (slot : Nat) (s : State) : Host.Outcome State Fault Refusal :=
  .next (s.active (·.idleExpiry window slot))

/-- A forced drain's idle_action on every OPEN context of window `w`, in ascending slot order (R60). -/
def State.forceContexts (s : State) (w : Fin 16) : State :=
  match (s.win w).fields.idleAction with
  | .flushPartial => s.completeAll (s.openInOrder w) true false
  | .discard =>
    let t := (s.openInOrder w).foldl (fun t i => t.discard w i) s
    if s.openOf w = 0 then t else t.record .contextsDiscarded (some w) none (BitVec.ofNat 32 (s.openOf w)) 2

/-- The drain timer expires (R145): DRAIN_FORCED, the idle_action, sub-state FORCED, and the apply if no context is left. -/
def State.drainExpiry (s : State) : State :=
  match s.pa.stage, s.pa.drainTimer with
  | p :: _, some t =>
    if (s.win p.window).state = .draining .normal ∧ t.due s.mp.timebase then
      let w := p.window
      let s1 := (s.setDrainTimer none).record .drainForced (some w) none (BitVec.ofNat 32 (s.openOf w)) 0
      State.settle s ((s1.forceContexts w).setWinState w (.draining .forced))
    else s
  | _ :: _, none => s
  | [], _ => s

/-- DRAIN_TIMER_EXPIRY. -/
def execDrainTimerExpiry (s : State) : Host.Outcome State Fault Refusal := .next (s.active State.drainExpiry)

/-! ### The arbiter -/

/-- The grant of an unreachable record (R125): its issue point and the KEEP tests of the heads that follow fall in one
event, in an order that R113 leaves open for each head. A free value says how many of the tests come first; the rest of
the run follows the issue point (log 10). The flush counts of the grant, and so its FLUSH_DONE, come before all of it:
the model's choice (log 32). -/
def State.afterUnreachable (s : State) : State :=
  let t := { s with freeIdx := s.freeIdx + 1 }
  (keepTests (Config.keepTestsFirst s.freeIdx) t).issuePoints.keepRun

/-- The arbiter grants the commit candidate a free position (R103, R104, R121, R123). An unreachable record reaches its
issue point in the grant's own event when no WAITING entry stands ahead of it; the FLUSH_DONE of a grant that ends a
flush is then recorded before its COMMIT_ERROR, an order that R59, R103 and R125 leave open (log 32). -/
def State.commitEntry (s : State) : State :=
  match s.commitCandidate with
  | none => s
  | some (i, c) =>
    if s.hasPosition then
      let t := s.grantCommit i c
      State.settle s (if c.unreachable then t.afterUnreachable else t)
    else s

/-- COMMIT_ENTRY. -/
def execCommitEntry (s : State) : Host.Outcome State Fault Refusal := .next (s.active State.commitEntry)

/-- The arbiter grants the offered request a free position; a commit candidate goes first (R121, R122). -/
def State.ingressEntry (s : State) : State :=
  match s.ig.intake with
  | .opened => s
  | .holding _ => s
  | .offering o => if s.hasPosition && s.commitCandidate.isNone then s.grantIngress o else s

/-- INGRESS_ENTRY. -/
def execIngressEntry (s : State) : Host.Outcome State Fault Refusal := .next (s.active State.ingressEntry)

/-! ### The egress link -/

/-- The request that an entry sends to memory (R124). -/
def EgressEntry.request (e : EgressEntry) : Request where
  kind :=
    match e.work with
    | .passRead _ => .read
    | .passWrite _ => .write
    | .commit _ => .write
  addr := e.addr
  size := e.size
  data := e.data
  be := e.be

/-- The oldest WAITING entry `e` is sent and becomes ISSUED; as the only ISSUED entry it starts the response timer
(R124, R127). -/
def State.send (s : State) (e : EgressEntry) : State :=
  let t := s.setQueue (issueOldest s.mp.timebase s.eg.queue)
  let u := { t with pins := { t.pins with egq := some e.request } }
  if s.issuedCount = 0 then u.startTimer else u

/-- An edge of the egress request channel (R124, R201): with EGQ_VALID and EGQ_READY high the oldest WAITING entry
issues; unreachable entries at their issue point leave (R125). -/
def State.issue (s : State) (ready : Bool) : State :=
  match s.oldestWaiting with
  | none => s
  | some e =>
    if e.isUnreachable then s.issuePoints
    else if s.egqValid && ready then (s.send e).issuePoints
    else s

/-- ISSUE. -/
def execIssue (ready : Bool) (s : State) : Host.Outcome State Fault Refusal := .next (s.active (·.issue ready))

/-- A memory response (R128): consumed as abandoned, completing the oldest ISSUED entry, or unmatched. -/
def State.memoryResponse (s : State) (status : LinkStatus) (data : Lanes) : State :=
  if 0 < s.eg.abandoned then
    let n := s.eg.abandoned - 1
    (s.setAbandoned n).record .lateResponse none none (BitVec.ofNat 32 n) 1
  else
    match s.oldestIssued with
    | some e => (s.completeEntry e status data).startTimer
    | none => s.record .lateResponse none none 0 2

/-- EGRESS_RESPONSE. While a reset holds the part the response is taken and discarded (R198). -/
def execEgressResponse (status : LinkStatus) (data : Lanes) (s : State) : Host.Outcome State Fault Refusal :=
  .next (s.active (·.memoryResponse status data))

/-- The response timer expires (R127, R130). -/
def State.responseExpiry (s : State) : State :=
  match s.eg.timer, s.oldestIssued with
  | some limit, some e => if limit.toNat ≤ e.age s.mp.timebase then (s.timeoutEntry e).startTimer else s
  | some _, none => s
  | none, _ => s

/-- RESPONSE_TIMEOUT. -/
def execResponseTimeout (s : State) : Host.Outcome State Fault Refusal := .next (s.active State.responseExpiry)

end Sys2Proof.Machine
end

