-- ==== Sys2Proof/Machine/Dispatch.lean ====
section
/-! DEFINITION. exec: one arm per row of spec/opcode_table.json, each one call of that row's meaning. -/

namespace Sys2Proof.Machine

def exec (i : Instr) (s : State) : Host.Outcome State Fault Refusal :=
  match i with
  | .ingressRequest kind addr size data be => Sys2Proof.Machine.execIngressRequest kind addr size data be s
  | .holdTimerExpiry => Sys2Proof.Machine.execHoldTimerExpiry s
  | .idleExpiry window slot => Sys2Proof.Machine.execIdleExpiry window slot s
  | .commitEntry => Sys2Proof.Machine.execCommitEntry s
  | .ingressEntry => Sys2Proof.Machine.execIngressEntry s
  | .issue ready => Sys2Proof.Machine.execIssue ready s
  | .egressResponse status data => Sys2Proof.Machine.execEgressResponse status data s
  | .responseTimeout => Sys2Proof.Machine.execResponseTimeout s
  | .deliverResponse => Sys2Proof.Machine.execDeliverResponse s
  | .drainTimerExpiry => Sys2Proof.Machine.execDrainTimerExpiry s
  | .ident mdi => Sys2Proof.Machine.execIdent mdi s
  | .readTime mdi => Sys2Proof.Machine.execReadTime mdi s
  | .stage mdi => Sys2Proof.Machine.execStage mdi s
  | .withdraw mdi => Sys2Proof.Machine.execWithdraw mdi s
  | .flush mdi => Sys2Proof.Machine.execFlush mdi s
  | .queryWindow mdi => Sys2Proof.Machine.execQueryWindow mdi s
  | .queryPool mdi => Sys2Proof.Machine.execQueryPool mdi s
  | .setCorrection mdi => Sys2Proof.Machine.execSetCorrection mdi s
  | .setMonitor mdi => Sys2Proof.Machine.execSetMonitor mdi s
  | .releaseMonitor mdi => Sys2Proof.Machine.execReleaseMonitor mdi s
  | .popEvent mdi => Sys2Proof.Machine.execPopEvent mdi s
  | .eventStatus mdi => Sys2Proof.Machine.execEventStatus mdi s
  | .setTimers mdi => Sys2Proof.Machine.execSetTimers mdi s
  | .engineReset mdi => Sys2Proof.Machine.execEngineReset mdi s
  | .unknownCommand code mdi => Sys2Proof.Machine.execUnknownCommand code mdi s
  | .responseRead period => Sys2Proof.Machine.execResponseRead period s
  | .timebaseTick => Sys2Proof.Machine.execTimebaseTick s
  | .powerOnReset refclk => Sys2Proof.Machine.execPowerOnReset refclk s
  | .rstAssert low => Sys2Proof.Machine.execRstAssert low s
  | .resetRelease => Sys2Proof.Machine.execResetRelease s

end Sys2Proof.Machine
end

