-- ==== Sys2Proof/Machine/Pins.lean ====
section
/-! DEFINITION. The pins as levels (11.10): what the output pins show in a state, and the row that the input pins of a
link channel spell. `true` is a high level. -/

namespace Sys2Proof

/-- The level of IGQ_KIND and EGQ_KIND (R201): low for READ, high for WRITE. -/
def LinkKind.level : LinkKind → Bool
  | .read => false
  | .write => true

/-- The kind that a level of IGQ_KIND spells (R201). -/
def LinkKind.ofLevel (b : Bool) : LinkKind := if b then .write else .read

/-- The level of IGR_STATUS and EGR_STATUS (R201): low for OK, high for ERROR. -/
def LinkStatus.level : LinkStatus → Bool
  | .ok => false
  | .error => true

/-- The status that a level of EGR_STATUS spells (R201). -/
def LinkStatus.ofLevel (b : Bool) : LinkStatus := if b then .error else .ok

namespace Machine

/-! ### Inputs -/

/-- The row that a request on the ingress request channel is, from the levels of IGQ_KIND and the other pins (R200,
R201). -/
def ingressRow (kind : Bool) (addr : Addr) (size : BitVec 7) (data : Lanes) (be : BitVec 64) : Instr :=
  .ingressRequest (LinkKind.ofLevel kind) addr size data be

/-- The row that a response on the egress response channel is, from the level of EGR_STATUS and EGR_DATA (R200, R201). -/
def egressRow (status : Bool) (data : Lanes) : Instr := .egressResponse (LinkStatus.ofLevel status) data

/-! ### Outputs -/

/-- IGR_STATUS and IGR_DATA, while IGR_VALID is high (R200, R201). -/
structure IgrPins where
  status : Bool
  data : Lanes
deriving DecidableEq, Repr

/-- EGQ_KIND, EGQ_ADDR, EGQ_SIZE, EGQ_DATA and EGQ_BE, while EGQ_VALID is high (R201). -/
structure EgqPins where
  kind : Bool
  addr : Addr
  size : BitVec 7
  data : Lanes
  be : BitVec 64
deriving DecidableEq, Repr

/-- The ingress response channel: none while IGR_VALID is low (R200). -/
def State.igrPins (s : State) : Option IgrPins :=
  if s.pins.igrValid then s.pins.igr.map (fun r => ⟨r.status.level, r.data⟩) else none

/-- Byte enables on their lanes from `lane` on; the other lanes are ignored (11.10) and driven low (log 25). -/
def enableLanes (lane : Nat) (be : List Bool) : BitVec 64 :=
  BitVec.ofFnLE (fun l : Fin 64 => decide (lane ≤ l.val) && be.getD (l.val - lane) false)

/-- A request to memory on the pins (R124, R201). A READ has neither data nor byte enables, and what EGQ_DATA and EGQ_BE
carry on the lanes of its bytes the manual does not say: the model drives all of them low (log 25). -/
def Request.egqPins (r : Request) : EgqPins where
  kind := r.kind.level
  addr := r.addr
  size := BitVec.ofNat 7 r.size
  data := toLanes (laneOf r.addr) r.data
  be := enableLanes (laneOf r.addr) r.be

/-- The egress request channel: none while EGQ_VALID is low, else the oldest WAITING entry's request (R124, R201). -/
def State.egqPins (s : State) : Option EgqPins :=
  if s.egqValid then s.oldestWaiting.map (fun e => e.request.egqPins) else none

/-- ALERT# (R168, R202): pulled low while the alert law asserts it, else released (none). -/
def State.alertPin (s : State) : Option Bool := if s.evq.alert then some false else none

end Machine

end Sys2Proof
end

