-- ==== Sys2Proof/Safety.lean ====
section
/-! DEFINITION. The laws of the manual as predicates on a state: what every step is claimed to keep. -/

namespace Sys2Proof.Machine

/-- Alert law (R168): ALERT# is asserted exactly while a queued record's class is enabled or the lost count is above 0. -/
def AlertLaw (s : State) : Prop :=
  s.evq.alert = true ↔ (∃ r ∈ s.evq.events, classEnabled s.evq.mask r.cls = true) ∨ s.evq.lost ≠ 0

/-- Loss law (R161) with the capacity of R160: a lost count above 0 means the queue holds 32 records. -/
def LossLaw (s : State) : Prop :=
  s.evq.events.length ≤ 32 ∧ (s.evq.lost ≠ 0 → s.evq.events.length = 32)

/-- The capacities of the Response Order List (R3), the Egress Queue (R119) and the Stage Queue (R137). -/
def CapacityLaw (s : State) : Prop :=
  s.ig.rol.length ≤ 16 ∧ s.eg.queue.length ≤ 16 ∧ s.pa.stage.length ≤ 4

/-- Issue law (R126): ISSUED entries plus the abandoned count never exceed 16. -/
def IssueLaw (s : State) : Prop := s.issuedCount + s.eg.abandoned ≤ 16

/-- The ISSUED entries form an unbroken run at the head of the queue (R119). -/
def QueueOrderLaw (s : State) : Prop :=
  ∃ issued waiting, s.eg.queue = issued ++ waiting ∧ (∀ e ∈ issued, e.isIssued = true) ∧
    (∀ e ∈ waiting, e.isIssued = false)

/-- The response timer runs exactly while an entry is ISSUED (R127). -/
def ResponseTimerLaw (s : State) : Prop := s.eg.timer.isSome = true ↔ ∃ e ∈ s.eg.queue, e.isIssued = true

/-- The hold timer runs exactly while a request is held for EXHAUSTION (R14, R49, R50). -/
def HoldTimerLaw (s : State) : Prop :=
  s.ae.holdTimer.isSome = true ↔ ∃ h, s.ig.intake = .holding h ∧ h.reason = .exhaustion

/-- The Commit List holds every COMMITTING context and no other, each once (R46). -/
def CommitListLaw (s : State) : Prop :=
  s.ae.commitList.Nodup ∧ ∀ i, i ∈ s.ae.commitList ↔ (s.ctx i).isCommitting = true

/-- Second pool law (R39): at most one OPEN context exists for any key. -/
def OneOpenPerKey (s : State) : Prop :=
  ∀ i j w slot, (s.ctx i).isKey w slot = true → (s.ctx j).isKey w slot = true → i = j

/-- The pool laws that a state carries: R46 and the second law of R39. -/
def PoolLaw (s : State) : Prop := CommitListLaw s ∧ OneOpenPerKey s

/-- Third pool law (R39), the count of an OPEN context lies between 1 and N - 1, with what it rests on: one OPEN context
for a key, no context in a DISABLED window (R25), and N at least 1 in every program that a window is OPEN under or may
become OPEN under (R19, R138). -/
def CountLaw (s : State) : Prop :=
  (∀ i a, s.ctx i = .opened a → 1 ≤ a.count ∧ a.count < (s.win a.window).fields.ratio.toNat) ∧ OneOpenPerKey s ∧
  (∀ w, (s.win w).decodes = false → s.holdsContexts w = false) ∧
  (∀ w, (s.win w).decodes = true → 1 ≤ (s.win w).fields.ratio.toNat) ∧
  ∀ p ∈ s.pa.stage, p.enable = true → 1 ≤ p.fields.ratio.toNat

/-- Drain law (R149): a DRAINING window is the target of the Stage Queue's head, a non-empty Stage Queue has a DRAINING
target at its head, and the drain timer runs exactly while a window is DRAINING in sub-state NORMAL. -/
def DrainLaw (s : State) : Prop :=
  (∀ w, (s.win w).state.isDraining = true → ∃ p rest, s.pa.stage = p :: rest ∧ p.window = w) ∧
  (∀ p rest, s.pa.stage = p :: rest → (s.win p.window).state.isDraining = true) ∧
  (s.pa.drainTimer.isSome = true ↔ ∃ w, (s.win w).state = .draining .normal)

/-- A byte address lies in a region of a window. -/
def Fields.owns (x : Fields) (g : Region) (a : Nat) : Bool :=
  match g with
  | .capture => x.capture.has a
  | .result => x.result.has a

/-- Region law (R30): over all windows that are not DISABLED, a byte address lies in at most one region, and a Slot
Status index in at most one slot range. -/
def RegionLaw (s : State) : Prop :=
  (∀ v w g h a, (s.win v).decodes = true → (s.win w).decodes = true → (s.win v).fields.owns g a = true →
    (s.win w).fields.owns h a = true → v = w ∧ g = h) ∧
  (∀ v w i, (s.win v).decodes = true → (s.win w).decodes = true → (s.win v).fields.slots.has i = true →
    (s.win w).fields.slots.has i = true → v = w)

/-- The count of a context if it is an OPEN or COMMITTING one of window `w`, else 0. -/
def Context.countIn (c : Context) (w : Fin 16) : Nat :=
  match c.acc? with
  | some a => if a.window = w then a.count else 0
  | none => 0

/-- The sum of the counts of a window's OPEN and COMMITTING contexts (R36). -/
def State.heldCount (s : State) (w : Fin 16) : Nat := (s.ae.pool.toList.map (fun c => c.countIn w)).sum

/-- Conservation law (R36) of one window, modulo 2^32. -/
def Balanced (s : State) (w : Fin 16) : Prop :=
  (s.win w).counters.absorbed =
    BitVec.ofNat 32 (s.heldCount w) + (s.win w).counters.committedSamples + (s.win w).counters.dropped

/-- The conservation law of every window (R36), with what it rests on: a DISABLED window holds no context (R25). -/
def ConservationLaw (s : State) : Prop :=
  (∀ w, Balanced s w) ∧ ∀ w, (s.win w).decodes = false → s.holdsContexts w = false

/-- The names of the Response Order List entries (log 15) rise, all below the next one. -/
def LinkLaw (s : State) : Prop :=
  (s.ig.rol.map RolEntry.link).Pairwise (· < ·) ∧ ∀ e ∈ s.ig.rol, e.link < s.ig.nextLink

/-- The names of the Response Order List entries that a request in the part carries: the offered or the held request
(R9, R14) and the PASS entries of the Egress Queue (R118; log 15). -/
def State.carried (s : State) : List Nat :=
  (match s.ig.intake with
   | .opened => []
   | .offering o => [o.link]
   | .holding h => [h.link]) ++
  s.eg.queue.filterMap (fun e =>
    match e.work with
    | .passRead n => some n
    | .passWrite n => some n
    | .commit _ => none)

/-- Every WAITING entry of the Response Order List has one request in the part that will answer it, and no READY entry
has one (R3, R12). -/
def OwnerLaw (s : State) : Prop :=
  s.carried.Nodup ∧ ∀ n, n ∈ s.carried ↔ ∃ e ∈ s.ig.rol, e.link = n ∧ e.state = .waiting

/-- Between events no head of the Commit List is to be discarded under KEEP (R105, R120): the list is empty, or its head
is a commit candidate. -/
def HeadWaits (s : State) : Prop := s.ae.commitList = [] ∨ ∃ p, s.commitCandidate = some p

/-- HeadWaits with what it rests on: the pool laws, and a DISABLED window holding no context (R25). -/
def CommitHeadLaw (s : State) : Prop :=
  HeadWaits s ∧ PoolLaw s ∧ ∀ w, (s.win w).decodes = false → s.holdsContexts w = false

/-- A monitor that is disabled is ARMED (R84), and its counters stay below its persistence, or at 0 (R85). -/
def MonitorLaw (s : State) : Prop :=
  ∀ m, ((s.mon m).enabled = false → (s.mon m).state = .armed) ∧
    ∀ w, (h : w < 16) → (s.mon m).counters[w] = 0 ∨ (s.mon m).counters[w] < (s.mon m).persistence.toNat

/-! ### What the statements speak of -/

/-- The frame of a select period with this first byte and these bits passes R175, with these arguments. -/
abbrev Executes (code : Byte) (mdi : List Bool) (args : List Byte) : Prop := judge (keptBytes code mdi) = .run args

/-- The port takes select periods: no reset holds the part, and no select period that one overtook is still open (R173,
R198). -/
def State.Listening (s : State) : Prop := s.hold = .running ∧ s.mcsLow = false

/-- `s` after a command transaction that stores reply `r`: the port holds it, MDO carried 0 bits, and floats (R172, R174,
R202). -/
def State.replied (s : State) (mdi : List Bool) (r : Reply) : State :=
  { s with
    mp := { s.mp with port := .responseReady r }
    pins := { s.pins with mdo := none, mdoSent := List.replicate (8 + mdi.length) false } }

/-- `s` after IG accepted `r`: its entry stands at the tail of the Response Order List in state `e` (R3), and the intake
is `x`. -/
def State.accepted (s : State) (r : Request) (e : RolState) (x : Intake) : State :=
  { s with
    ig := { rol := s.ig.rol ++ [⟨s.ig.nextLink, r.kind, r.size, laneOf r.addr, e⟩], nextLink := s.ig.nextLink + 1,
            intake := x } }

/-- No request is held. -/
def State.NoHeld (s : State) : Prop := ∀ h, s.ig.intake ≠ .holding h

/-- The fourteen command rows, each with its code (R191). -/
def commandRows : List (Byte × (List Bool → Instr)) :=
  [(0x01, .ident), (0x02, .readTime), (0x10, .stage), (0x11, .withdraw), (0x12, .flush), (0x13, .queryWindow),
   (0x14, .queryPool), (0x20, .setCorrection), (0x21, .setMonitor), (0x22, .releaseMonitor), (0x30, .popEvent),
   (0x31, .eventStatus), (0x40, .setTimers), (0x41, .engineReset)]

end Sys2Proof.Machine

namespace Sys2Proof

/-- The rows that change something while a reset holds the part: the timebase, the resets themselves, and a select period
that begins in the reset and outlasts it (R173, R198, R199). -/
def Instr.actsInReset : Instr → Bool
  | .timebaseTick => true
  | .powerOnReset _ => true
  | .rstAssert _ => true
  | .resetRelease => true
  | .responseRead .begun => true
  | _ => false

/-- The rows that are a whole select period of the port, so that MCS# is high after them (R172). -/
def Instr.onPort : Instr → Bool
  | .responseRead .begun => false
  | .responseRead _ => true
  | .unknownCommand _ _ => true
  | .ident _ => true
  | .readTime _ => true
  | .stage _ => true
  | .withdraw _ => true
  | .flush _ => true
  | .queryWindow _ => true
  | .queryPool _ => true
  | .setCorrection _ => true
  | .setMonitor _ => true
  | .releaseMonitor _ => true
  | .popEvent _ => true
  | .eventStatus _ => true
  | .setTimers _ => true
  | .engineReset _ => true
  | _ => false

end Sys2Proof
end

