-- ==== Sys2Proof/WellFormed.lean ====
section
/-! DEFINITION. Which terms are commands that can happen. exec is total on every term; these checks say which row a
select period belongs to, and which operands have a meaning outside. -/

namespace Sys2Proof

open Machine in
/-- Whether the first three lines of R175 let a frame through: what tells a command row from UNKNOWN_COMMAND. -/
def frameTaken (code : Byte) (mdi : List Bool) : Bool :=
  match judge (keptBytes code mdi) with
  | .badFrame => false
  | .badCrc => false
  | .badCmd => false
  | .badArg => true
  | .run _ => true

/-- Well-formedness of a command. A command row's frame is complete, has a right CRC and a known code; UNKNOWN_COMMAND's
first byte is not 0x00 (R173) and its frame is refused by one of the first three lines of R175; a select period without
a complete byte has fewer than eight bits (R173); a slot is 0 to 255 (R38); RST# is low for at least one period. -/
def Instr.wf : Instr → Bool
  | .ingressRequest _ _ _ _ _ => true
  | .holdTimerExpiry => true
  | .idleExpiry _ slot => decide (slot < 256)
  | .commitEntry => true
  | .ingressEntry => true
  | .issue _ => true
  | .egressResponse _ _ => true
  | .responseTimeout => true
  | .deliverResponse => true
  | .drainTimerExpiry => true
  | .ident mdi => frameTaken 0x01 mdi
  | .readTime mdi => frameTaken 0x02 mdi
  | .stage mdi => frameTaken 0x10 mdi
  | .withdraw mdi => frameTaken 0x11 mdi
  | .flush mdi => frameTaken 0x12 mdi
  | .queryWindow mdi => frameTaken 0x13 mdi
  | .queryPool mdi => frameTaken 0x14 mdi
  | .setCorrection mdi => frameTaken 0x20 mdi
  | .setMonitor mdi => frameTaken 0x21 mdi
  | .releaseMonitor mdi => frameTaken 0x22 mdi
  | .popEvent mdi => frameTaken 0x30 mdi
  | .eventStatus mdi => frameTaken 0x31 mdi
  | .setTimers mdi => frameTaken 0x40 mdi
  | .engineReset mdi => frameTaken 0x41 mdi
  | .unknownCommand code mdi => code != 0 && !frameTaken code mdi
  | .responseRead (.read _) => true
  | .responseRead (.short mdi) => decide (mdi.length < 8)
  | .responseRead .begun => true
  | .timebaseTick => true
  | .powerOnReset _ => true
  | .rstAssert low => decide (1 ≤ low)
  | .resetRelease => true

end Sys2Proof
end

