-- ==== Sys2Proof/Certificates/Slice0/Obligations.lean ====
section
/-! DEFINITION. The statements for the provers, one Prop each. -/

open Sys2Proof Sys2Proof.Machine

/-! ### The queue of commands, resets, what a command leaves alone -/

/-- A step runs the command at the front of the queue on the state with the queue's rest; with no command waiting the
block idles (the model's choice, log 17). -/
def Obligations.StepRunsTheFrontCommand : Prop :=
  (∀ (s : State) (c : Instr) (rest : List Instr),
    step { s with pending := c :: rest } = exec c { s with pending := rest }) ∧
  ∀ s : State, s.pending = [] → step s = .next s

/-- Every command, in every state, takes a next state (the part has no fault state, R178), and leaves the queue of
waiting commands as it is. -/
def Obligations.EveryCommandTakesANextState : Prop :=
  ∀ (c : Instr) (s : State), ∃ t : State, exec c s = .next t ∧ t.pending = s.pending

/-- While a reset holds the part it acts on nothing (R198): only the timebase row, the resets and the level of MCS#
do something. MCS# is an input: after a row that is a whole select period it is high, and the period is ignored. -/
def Obligations.HeldPartActsOnNothing : Prop :=
  ∀ (c : Instr) (s : State) (n : Nat), s.hold = .held n → c.actsInReset = false →
    exec c s = .next (if c.onPort then { s with mcsLow := false } else s)

/-- What the supervisor has set stays until the row that sets it, or a reset: the Correction Table (R67), the three timer
limits and the alert mask (R189, R167), and the timebase, which only its own row moves (R187). -/
def Obligations.ConfigurationStays : Prop :=
  ∀ (c : Instr) (s t : State), c.wf = true → c.actsInReset = false → exec c s = .next t →
    t.mp.timebase = s.mp.timebase ∧ t.hold = s.hold ∧
    ((∀ mdi, c ≠ .setCorrection mdi) → t.rf = s.rf) ∧
    ((∀ mdi, c ≠ .setTimers mdi) → t.mp.holdLimit = s.mp.holdLimit ∧ t.mp.drainLimit = s.mp.drainLimit ∧
      t.mp.responseLimit = s.mp.responseLimit ∧ t.evq.mask = s.evq.mask)

/-- One tick of the timebase (R187): the count rises by 1 modulo 2^32 and nothing else changes; while a reset holds the
part the timebase stays, and 25 of the periods that a power-on reset still has to run have passed (R198, R199). -/
def Obligations.TimebaseTick : Prop :=
  (∀ s : State, s.hold = .running →
    exec .timebaseTick s = .next { s with mp := { s.mp with timebase := s.mp.timebase + 1 } }) ∧
  ∀ (s : State) (n : Nat), s.hold = .held n → exec .timebaseTick s = .next { s with hold := .held (n - 25) }

/-- A power-on reset and a RST# held low for 10 REFCLK periods put every block in its reset state and hold it there; a
shorter pulse has no effect or the full one (R198, R199; which, is the free value of log 11). -/
def Obligations.ResetsHoldThePart : Prop :=
  (∀ (s : State) (n : Nat), exec (.powerOnReset n) s =
    .next { State.reset with
      hold := .held (1024 - n), mcsLow := s.mcsLow, freeIdx := s.freeIdx, pending := s.pending }) ∧
  (∀ (s : State) (n : Nat), 10 ≤ n → s.hold = .running →
    exec (.rstAssert n) s = .next { State.reset with
      hold := .held 0, mcsLow := s.mcsLow, freeIdx := s.freeIdx, pending := s.pending }) ∧
  (∀ (s : State) (n k : Nat), 10 ≤ n → s.hold = .held k →
    exec (.rstAssert n) s = .next { State.reset with
      hold := .held k, mcsLow := s.mcsLow, freeIdx := s.freeIdx, pending := s.pending }) ∧
  ∀ (s : State) (n : Nat), n < 10 → s.hold = .running →
    exec (.rstAssert n) s = .next { s with freeIdx := s.freeIdx + 1 } ∨
    exec (.rstAssert n) s = .next { State.reset with
      hold := .held 0, mcsLow := s.mcsLow, freeIdx := s.freeIdx + 1, pending := s.pending }

/-- The release of a reset (R197): every window DISABLED, the pool FREE, every queue and list empty, the Slot Status
Memory cleared, the timer limits and the alert mask at their defaults, the port IDLE, the timebase 0, the intake OPEN. A
select period that is open at the release is not taken: the next row of the port is its end, and nothing else (R173). One
that ends while the reset lasts is ignored (R198), and the first select period after the release is taken. -/
def Obligations.ReleaseStartsFromTheResetState : Prop :=
  (∀ s : State, s.hold = .held 0 →
    exec .resetRelease s = .next { State.reset with
      mcsLow := s.mcsLow, freeIdx := s.freeIdx, pending := s.pending }) ∧
  State.reset.hold = .running ∧
  (∀ w, (State.reset.win w).state = .disabled) ∧ (∀ i, State.reset.ctx i = .free) ∧
  State.reset.ae.commitList = [] ∧ State.reset.eg.queue = [] ∧ State.reset.pa.stage = [] ∧
  State.reset.evq.events = [] ∧ State.reset.ig.rol = [] ∧ State.reset.ig.intake = .opened ∧
  (∀ i < 1024, State.reset.ct[i]? = some ⟨0, false⟩) ∧
  State.reset.mp = ⟨.idle, 0, 200, 2000, 250⟩ ∧
  State.reset.evq.mask = 0x1F ∧ State.reset.evq.lost = 0 ∧ State.reset.evq.alert = false ∧
  State.reset.pins.igrValid = false ∧ State.reset.pins.mdo = none ∧
  (∀ (s : State) (n : Nat), s.hold = .held n → exec (.responseRead .begun) s = .next { s with mcsLow := true }) ∧
  (∀ (s : State) (mdi : List Bool), s.mcsLow = true →
    (∀ p ∈ commandRows, exec (p.2 mdi) s = .next { s with mcsLow := false }) ∧
    (∀ code, exec (.unknownCommand code mdi) s = .next { s with mcsLow := false }) ∧
    exec (.responseRead (.read mdi)) s = .next { s with mcsLow := false } ∧
    exec (.responseRead (.short mdi)) s = .next { s with mcsLow := false }) ∧
  ∀ (s : State) (mdi : List Bool), s.hold = .held 0 →
    ∃ t u : State, exec (.responseRead (.short mdi)) s = .next t ∧ exec .resetRelease t = .next u ∧ u.Listening

/-! ### The frame on the wire -/

/-- R175 line by line, over the complete bytes of a command transaction, with the code table of R191. -/
def Obligations.FrameJudgement : Prop :=
  (∀ (code : Byte) (mdi : List Bool),
    let f := code :: completeBytes mdi
    let len := (f.getD 1 0).toNat
    judge (keptBytes code mdi) =
      if f.length < 2 ∨ 40 < len ∨ f.length < len + 3 then .badFrame
      else if f.getD (len + 2) 0 ≠ crc8 (f.take (len + 2)) then .badCrc
      else match argLength code with
        | none => .badCmd
        | some n => if len ≠ n then .badArg else .run ((f.drop 2).take len)) ∧
  ∀ code : Byte, argLength code =
    [(0x01, 0), (0x02, 0), (0x10, 21), (0x11, 1), (0x12, 1), (0x13, 1), (0x14, 0), (0x20, 9), (0x21, 13), (0x22, 1),
     (0x30, 0), (0x31, 0), (0x40, 7), (0x41, 0)].lookup code

/-- Every frame that R191 builds for a command, whatever bits follow it in its select period, executes with exactly the
arguments it carries: no bit of a frame is lost on the wire. -/
def Obligations.FramesRoundTrip : Prop :=
  ∀ (code : Byte) (args : List Byte) (extra : List Bool), argLength code = some args.length →
    Executes code (frameTail code args ++ extra) args

/-- A frame refused by R175 has no effect on any block: only its reply is stored. UNKNOWN_COMMAND is such a frame. -/
def Obligations.RefusedFrameOnlyStoresItsReply : Prop :=
  (∀ p ∈ commandRows, ∀ (mdi : List Bool) (s : State), s.Listening →
    (judge (keptBytes p.1 mdi) = .badFrame → exec (p.2 mdi) s = .next (s.replied mdi ⟨.badFrame, []⟩)) ∧
    (judge (keptBytes p.1 mdi) = .badCrc → exec (p.2 mdi) s = .next (s.replied mdi ⟨.badCrc, []⟩)) ∧
    (judge (keptBytes p.1 mdi) = .badArg → exec (p.2 mdi) s = .next (s.replied mdi ⟨.badArg, []⟩))) ∧
  ∀ (code : Byte) (mdi : List Bool) (s : State), s.Listening → (Instr.unknownCommand code mdi).wf = true →
    (judge (keptBytes code mdi) = .badFrame ∧
      exec (.unknownCommand code mdi) s = .next (s.replied mdi ⟨.badFrame, []⟩)) ∨
    (judge (keptBytes code mdi) = .badCrc ∧ exec (.unknownCommand code mdi) s = .next (s.replied mdi ⟨.badCrc, []⟩)) ∨
    (judge (keptBytes code mdi) = .badCmd ∧ exec (.unknownCommand code mdi) s = .next (s.replied mdi ⟨.badCmd, []⟩))

/-! ### Commands that only reply -/

/-- IDENT (R179) replies OK with its fourteen bytes in every state of the part, and changes nothing. -/
def Obligations.IdentReply : Prop :=
  ∀ (mdi : List Bool) (s : State), s.Listening → Executes 0x01 mdi [] →
    exec (.ident mdi) s = .next (s.replied mdi
      ⟨.ok, [0xD1, 0x24, 0x01, 0x10, 0x40, 0x00, 0x04, 0x08, 0x04, 0x04, 0x10, 0x10, 0x20, 0x28]⟩)

/-- READ_TIME (R187), QUERY_WINDOW (R181), QUERY_POOL (R184) and EVENT_STATUS (R166) reply with the values of the part
as it stands and change nothing. -/
def Obligations.QueriesOnlyReply : Prop :=
  (∀ (mdi : List Bool) (s : State), s.Listening → Executes 0x02 mdi [] →
    exec (.readTime mdi) s = .next (s.replied mdi ⟨.ok, leBytes s.mp.timebase.toNat 4⟩)) ∧
  (∀ (mdi : List Bool) (b : Byte) (s : State), s.Listening → Executes 0x13 mdi [b] → 15 < b.toNat →
    exec (.queryWindow mdi) s = .next (s.replied mdi ⟨.badArg, []⟩)) ∧
  (∀ (mdi : List Bool) (w : Fin 16) (s : State), s.Listening → Executes 0x13 mdi [BitVec.ofNat 8 w.val] →
    exec (.queryWindow mdi) s = .next (s.replied mdi
      ⟨.ok, programBytes w (s.win w).decodes (s.win w).fields ++
        [(match (s.win w).state with
          | .disabled => 0
          | .opened => 1
          | .draining .normal => 2
          | .draining .forced => 3), BitVec.ofNat 8 (s.openOf w), BitVec.ofNat 8 (s.committingOf w)] ++
        leBytes (s.win w).counters.absorbed.toNat 4 ++ leBytes (s.win w).counters.committedRecords.toNat 4 ++
        leBytes (s.win w).counters.committedSamples.toNat 4 ++ leBytes (s.win w).counters.dropped.toNat 4 ++
        leBytes (s.win w).counters.spilled.toNat 4 ++ leBytes (s.win w).counters.overruns.toNat 4 ++
        leBytes (s.win w).counters.withheld.toNat 4⟩)) ∧
  (∀ (mdi : List Bool) (s : State), s.Listening → Executes 0x14 mdi [] →
    exec (.queryPool mdi) s = .next (s.replied mdi
      ⟨.ok, [BitVec.ofNat 8 s.freeCount, BitVec.ofNat 8 s.openCount, BitVec.ofNat 8 s.committingCount,
        BitVec.ofNat 8 s.ae.commitList.length,
        (match s.ig.intake with
         | .holding h => if h.reason = .exhaustion then 1 else 2
         | .opened => 0
         | .offering _ => 0)] ++
        leBytes (match s.ae.holdTimer with
          | some t => t.limit.toNat - (s.mp.timebase - t.start).toNat
          | none => 0) 2 ++
        [BitVec.ofNat 8 s.eg.queue.length, BitVec.ofNat 8 s.eg.abandoned]⟩)) ∧
  ∀ (mdi : List Bool) (s : State), s.Listening → Executes 0x31 mdi [] →
    exec (.eventStatus mdi) s = .next (s.replied mdi
      ⟨.ok, BitVec.ofNat 8 s.evq.events.length :: leBytes s.evq.lost.toNat 2⟩)

/-- A response read (R177) sends the stored reply after the first byte period, 0x00 after its CRC, and in IDLE the bytes
0x0A 0x00 0x82; it changes no state of any block. A select period of fewer than eight bits changes none either (R173);
that MDO carries 0 bits in it is log 7's reading, and that the pins keep the bits last sent (`mdoSent`) is log 14's
choice. After every command MDO floats (R202). -/
def Obligations.ResponseReadSendsTheStoredReply : Prop :=
  (∀ (mdi : List Bool) (s : State) (r : Reply), s.Listening → s.mp.port = .responseReady r →
    let body := r.status.code :: BitVec.ofNat 8 r.data.length :: r.data
    let bits := wire (body ++ [crc8 body])
    exec (.responseRead (.read mdi)) s = .next { s with pins := { s.pins with
      mdo := none
      mdoSent := List.replicate 8 false ++ bits.take mdi.length ++ List.replicate (mdi.length - bits.length) false } }) ∧
  (∀ (mdi : List Bool) (s : State), s.Listening → s.mp.port = .idle →
    let bits := wire [0x0A, 0x00, 0x82]
    exec (.responseRead (.read mdi)) s = .next { s with pins := { s.pins with
      mdo := none
      mdoSent := List.replicate 8 false ++ bits.take mdi.length ++ List.replicate (mdi.length - bits.length) false } }) ∧
  (∀ (mdi : List Bool) (s : State), s.Listening → mdi.length < 8 →
    exec (.responseRead (.short mdi)) s = .next { s with pins := { s.pins with
      mdo := none, mdoSent := List.replicate mdi.length false } }) ∧
  ∀ (c : Instr) (s t : State), s.pins.mdo = none → exec c s = .next t → t.pins.mdo = none

/-! ### The Event Queue -/

/-- EQ takes a record (R160, R161, R168): appended with class and timestamp while fewer than 32 are queued, else counted as
lost up to 65535; ALERT# takes its level; nothing else changes. -/
def Obligations.RecordIsQueuedOrCounted : Prop :=
  ∀ (s : State) (k : EventKind) (w : Option (Fin 16)) (slot : Option Nat) (d : BitVec 32) (n : Nat),
    ∃ q, s.record k w slot d n = { s with evq := q } ∧ q.mask = s.evq.mask ∧
      (q.alert = true ↔ (∃ r ∈ q.events, classEnabled q.mask r.cls = true) ∨ q.lost ≠ 0) ∧
      (s.evq.events.length < 32 → q.lost = s.evq.lost ∧
        q.events = s.evq.events ++ [⟨k, k.cls, w, slot, s.mp.timebase, d, BitVec.ofNat 16 n⟩]) ∧
      (32 ≤ s.evq.events.length → q.events = s.evq.events ∧
        q.lost.toNat = min 65535 (s.evq.lost.toNat + 1))

/-- POP_EVENT (R162 to R164): an empty queue replies EMPTY and nothing changes; else the head record leaves, in its
sixteen bytes (R195), and with a lost count above 0 EVENTS_LOST takes the freed position and the count is 0. -/
def Obligations.PopEventReturnsTheHead : Prop :=
  (∀ (mdi : List Bool) (s : State), s.Listening → Executes 0x30 mdi [] → s.evq.events = [] →
    exec (.popEvent mdi) s = .next (s.replied mdi ⟨.empty, []⟩)) ∧
  ∀ (mdi : List Bool) (s : State) (r : EventRecord) (rest : List EventRecord), s.Listening →
    Executes 0x30 mdi [] → s.evq.events = r :: rest →
    ∃ q : EQ, exec (.popEvent mdi) s = .next ({ s with evq := q }.replied mdi
        ⟨.ok, leBytes r.kind.code 1 ++ leBytes r.cls.code 1 ++ leBytes (orNone (r.window.map Fin.val)) 2 ++
          leBytes (orNone r.slot) 2 ++ leBytes r.timestamp.toNat 4 ++ leBytes r.detail.toNat 4 ++
          leBytes r.aux.toNat 2⟩) ∧
      q.mask = s.evq.mask ∧ q.lost = 0 ∧
      (q.alert = true ↔ ∃ x ∈ q.events, classEnabled q.mask x.cls = true) ∧
      (s.evq.lost = 0 → q.events = rest) ∧
      (s.evq.lost ≠ 0 → q.events =
        rest ++ [⟨.eventsLost, .system, none, none, s.mp.timebase, s.evq.lost.setWidth 32, 0⟩])

/-- SET_TIMERS (R189): a limit out of range is refused with BADARG; else the three limits and the alert mask are replaced,
ALERT# takes its level, and the reply carries the values now in force (with bits 5 to 7 of the mask byte 0, the model's
choice: log 33). -/
def Obligations.SetTimersReplacesTheLimits : Prop :=
  ∀ (mdi : List Bool) (s : State) (h d r : BitVec 16) (m : Byte), s.Listening →
    Executes 0x40 mdi (leBytes h.toNat 2 ++ leBytes d.toNat 2 ++ leBytes r.toNat 2 ++ [m]) →
    (d = 0 ∨ r = 0 ∨ 4095 < r.toNat → exec (.setTimers mdi) s = .next (s.replied mdi ⟨.badArg, []⟩)) ∧
    (d ≠ 0 → r ≠ 0 → r.toNat ≤ 4095 → ∃ a : Bool,
      exec (.setTimers mdi) s = .next ({ s with
        mp := { s.mp with holdLimit := h, drainLimit := d, responseLimit := r }
        evq := { s.evq with mask := m.setWidth 5, alert := a } }.replied mdi
          ⟨.ok, leBytes h.toNat 2 ++ leBytes d.toNat 2 ++ leBytes r.toNat 2 ++ [m &&& 0x1F]⟩) ∧
      (a = true ↔ (∃ x ∈ s.evq.events, classEnabled (m.setWidth 5) x.cls = true) ∨ s.evq.lost ≠ 0))

/-! ### Corrections and monitors -/

/-- SET_CORRECTION (R79): the checks in order, each BADARG; else the whole entry is replaced and nothing else changes. -/
def Obligations.SetCorrectionWritesOneEntry : Prop :=
  ∀ (mdi : List Bool) (s : State) (i c w f l : Byte) (o : BitVec 32), s.Listening →
    Executes 0x20 mdi ([i, c, w, f, l] ++ leBytes o.toNat 4) →
    (7 < i.toNat ∨ 15 < w.toNat ∨ l.toNat < f.toNat →
      exec (.setCorrection mdi) s = .next (s.replied mdi ⟨.badArg, []⟩)) ∧
    ∀ (hi : i.toNat < 8) (hw : w.toNat < 16), f.toNat ≤ l.toNat →
      exec (.setCorrection mdi) s = .next
        ({ s with rf := s.rf.set i.toNat ⟨c.getLsbD 0, ⟨w.toNat, hw⟩, f, l, o, c.getLsbD 1⟩ }.replied mdi ⟨.ok, []⟩)

/-- SET_MONITOR (R94): the checks in order, each BADARG; else the record is replaced, ARMED, with its 16 counters 0. -/
def Obligations.SetMonitorWritesOneMonitor : Prop :=
  ∀ (mdi : List Bool) (s : State) (m c p : Byte) (mask : BitVec 16) (low high : BitVec 32), s.Listening →
    Executes 0x21 mdi ([m, c] ++ leBytes mask.toNat 2 ++ leBytes low.toNat 4 ++ leBytes high.toNat 4 ++ [p]) →
    (3 < m.toNat ∨ high.toInt < low.toInt ∨ p.toNat = 0 ∨ 15 < p.toNat ∨ 15 < c.toNat →
      exec (.setMonitor mdi) s = .next (s.replied mdi ⟨.badArg, []⟩)) ∧
    ∀ _hm : m.toNat < 4, low.toInt ≤ high.toInt → 1 ≤ p.toNat → p.toNat ≤ 15 → c.toNat ≤ 15 →
      let x : Monitor :=
        { enabled := c.getLsbD 0
          mask := mask
          low := low
          high := high
          mode := if c.getLsbD 1 then .inside else .outside
          persistence := p
          latch := c.getLsbD 2
          action := if c.getLsbD 3 then .withhold else .report
          state := .armed
          counters := Vector.replicate 16 0 }
      exec (.setMonitor mdi) s = .next (({ s with lm := s.lm.set m.toNat x } : State).replied mdi ⟨.ok, []⟩)

/-- RELEASE_MONITOR (R95): an index above 3 is refused; else the monitor is ARMED, its 16 counters are 0, its fields stay,
and the reply tells the state before. -/
def Obligations.ReleaseMonitorArmsOneMonitor : Prop :=
  ∀ (mdi : List Bool) (s : State) (m : Byte), s.Listening → Executes 0x22 mdi [m] →
    (3 < m.toNat → exec (.releaseMonitor mdi) s = .next (s.replied mdi ⟨.badArg, []⟩)) ∧
    ∀ hm : m.toNat < 4,
      let x : Monitor := { s.lm[m.toNat] with state := .armed, counters := Vector.replicate 16 0 }
      exec (.releaseMonitor mdi) s = .next
        (({ s with lm := s.lm.set m.toNat x } : State).replied mdi ⟨.ok, [if s.lm[m.toNat].state = MonitorState.armed then 0 else 1]⟩)

/-- One monitor's turn on a result (R86 to R89): its match, its counter, and, when the run reaches P, the fire: HITm, LIMIT,
counter 0 and the latch. -/
def Obligations.MonitorTurn : Prop :=
  ∀ (w : Fin 16) (slot : Nat) (e : Eval) (m : Fin 4),
    let x := e.s.mon m
    let v := e.r.value.toInt
    let hit : Prop := if x.mode = .inside then x.low.toInt ≤ v ∧ v ≤ x.high.toInt else v < x.low.toInt ∨ x.high.toInt < v
    let t := Eval.turn w slot e m
    let count : Nat → Monitor := fun n => { x with counters := x.counters.set w.val n }
    let after : MonitorState := if x.latch then .latched else .armed
    (x.enabled = false ∨ x.state = .latched ∨ x.mask.getLsbD w.val = false → t = e) ∧
    (x.enabled = true → x.state = .armed → x.mask.getLsbD w.val = true →
      (¬ hit → t = { e with s := e.s.setMon m (count 0) }) ∧
      (hit → x.counters[w.val] + 1 < x.persistence.toNat →
        t = { e with s := e.s.setMon m (count (x.counters[w.val] + 1)) }) ∧
      (hit → x.counters[w.val] + 1 = x.persistence.toNat →
        t.s = (e.s.record .limit (some w) (some slot) e.r.value m.val).setMon m { count 0 with state := after } ∧
        t.r = { e.r with flags := { e.r.flags with hits := e.r.flags.hits ||| BitVec.ofNat 4 (2 ^ m.val) } } ∧
        (x.action = .report → t.withhold = e.withhold) ∧
        (x.action = .withhold → t.withhold = some (e.withhold.getD m))))

/-- The value and SAT of a record (R66, R69 to R72): the rounding shift, the exact offset, the clamp to 32 bits, the narrow
clamp, and SAT exactly when a clamp changed the value. -/
def Obligations.ResultValue : Prop :=
  (∀ sum : Int, shiftedValue sum 0 = sum) ∧
  (∀ (sum : Int) (n : Nat), 1 ≤ n → 2 ^ n * shiftedValue sum n ≤ sum + 2 ^ (n - 1) ∧
    sum + 2 ^ (n - 1) < 2 ^ n * (shiftedValue sum n + 1)) ∧
  ∀ (entry : Option Correction) (x : Fields) (a : Accum) (isPartial : Bool),
    let r := formResult entry x a isPartial
    let c := shiftedValue a.sum.toInt x.shift.toNat - (entry.elim 0 (fun e => e.offset.toInt))
    let lo : Int := if x.format = .s16 then -32768 else if x.format = .s32 then -(2 ^ 31) else 0
    let hi : Int := if x.format = .s16 then 32767 else if x.format = .u16 then 65535 else 2 ^ 31 - 1
    r.count = a.count ∧
    (entry.elim false (fun e => e.narrow) = false → r.value.toInt = max (-(2 ^ 31)) (min (2 ^ 31 - 1) c) ∧
      r.flags = ⟨true, isPartial, decide (c < -(2 ^ 31) ∨ 2 ^ 31 - 1 < c), false, 0⟩) ∧
    (entry.elim false (fun e => e.narrow) = true → r.value.toInt = max lo (min hi c) ∧
      r.flags = ⟨true, isPartial, decide (c < lo ∨ hi < c), false, 0⟩)

/-! ### STAGE, WITHDRAW, FLUSH, ENGINE_RESET -/

/-- The program record (R192) carries every field of a program, and STAGE takes it unless a check of R138 fails. -/
def Obligations.ProgramRecordRoundTrip : Prop :=
  (∀ (w : Fin 16) (enable : Bool) (x : Fields), stagedProgram (programBytes w enable x) =
    if enable = true ∧ ¬(1 ≤ x.slotCount.toNat ∧ x.slotCount.toNat ≤ 256 ∧
      x.slotBase.toNat + x.slotCount.toNat ≤ 1024 ∧ 1 ≤ x.ratio.toNat ∧ x.ratio.toNat ≤ 512 ∧ x.shift.toNat ≤ 12 ∧
      x.captureBase.toNat % 64 = 0 ∧ x.resultBase.toNat % 64 = 0) then none
    else some ⟨w, enable, x⟩) ∧
  (∀ a : List Byte, 15 < (a.getD 0 0).toNat → stagedProgram a = none) ∧
  ∀ a : List Byte, (a.getD 1 0).getLsbD 0 = true → (a.getD 1 0).getLsbD 7 = true → stagedProgram a = none

/-- STAGE to an empty Stage Queue, for a window without contexts (R139 to R141, R150, R151): the program is applied at once,
or rejected at the comparison; nothing is held, so nothing is released. The comparison (R29, R150): a program with enable
no passes; one with enable yes passes when neither of its regions has a byte in a region of another window that is not
DISABLED, its own two regions have no byte in common, and its slot range has no index in the range of such a window;
else the cause is 1 for a region overlap, before 2 for a slot overlap, with the lowest window in conflict by that cause,
the program's own among them. Ranges that only meet pass. -/
def Obligations.StageAppliesAtOnce : Prop :=
  (∀ (s : State) (p : Program),
    let width : Fields → Nat := fun x => if x.format = .s16 ∨ x.format = .u16 then 2 else 4
    let captures : Fields → Nat → Prop := fun x a =>
      x.captureBase.toNat ≤ a ∧ a < x.captureBase.toNat + x.slotCount.toNat * width x
    let results : Fields → Nat → Prop := fun x a =>
      x.resultBase.toNat ≤ a ∧ a < x.resultBase.toNat + x.slotCount.toNat * 8
    let indices : Fields → Nat → Prop := fun x k => x.slotBase.toNat ≤ k ∧ k < x.slotBase.toNat + x.slotCount.toNat
    let other : Fin 16 → Prop := fun v => v ≠ p.window ∧ (s.win v).state ≠ .disabled
    let region : Fin 16 → Prop := fun v =>
      (v = p.window ∧ ∃ a, captures p.fields a ∧ results p.fields a) ∨
      (other v ∧ ∃ a, (captures p.fields a ∨ results p.fields a) ∧
        (captures (s.win v).fields a ∨ results (s.win v).fields a))
    let slot : Fin 16 → Prop := fun v => other v ∧ ∃ k, indices p.fields k ∧ indices (s.win v).fields k
    (s.conflict p = none ↔ p.enable = false ∨ ∀ v, ¬ region v ∧ ¬ slot v) ∧
    ∀ cause v, s.conflict p = some (cause, v) ↔ p.enable = true ∧
      ((cause = 1 ∧ region v ∧ ∀ u, u < v → ¬ region u) ∨
        (cause = 2 ∧ (∀ u, ¬ region u) ∧ slot v ∧ ∀ u, u < v → ¬ slot u))) ∧
  ∀ (mdi : List Bool) (s : State) (a : List Byte) (p : Program), s.Listening → Executes 0x10 mdi a →
    stagedProgram a = some p → s.pa.stage = [] → s.NoHeld → (s.win p.window).state.isDraining = false →
    (s.win p.window).state = .disabled ∨ s.holdsContexts p.window = false →
    let reset : Nat → Bool := fun i => ((s.win p.window).decodes && (s.win p.window).fields.slots.has i) ||
      (p.enable && p.fields.slots.has i)
    ∃ t : State, exec (.stage mdi) s = .next t ∧ t.mp.port = .responseReady ⟨.ok, [1]⟩ ∧ t.pa.stage = [] ∧
      t.ae = s.ae ∧ t.ig = s.ig ∧ t.rf = s.rf ∧ (∀ v, v ≠ p.window → t.win v = s.win v) ∧
      (s.conflict p = none →
        t.win p.window = ⟨if p.enable then .opened else .disabled, p.fields, ⟨0, 0, 0, 0, 0, 0, 0⟩⟩ ∧
        (∀ i < 1024, t.slotAt i = if reset i then ⟨0, false⟩ else s.slotAt i) ∧
        t.eg = { s.eg with queue := s.eg.queue.map (EgressEntry.staleWhere reset) } ∧
        (∀ m, t.mon m = if (s.mon m).state = .armed then
          { s.mon m with counters := (s.mon m).counters.set p.window.val 0 } else s.mon m) ∧
        t.evq = (s.record .programApplied (some p.window) none (if p.enable then 1 else 0) 1).evq) ∧
      ∀ cause v, s.conflict p = some (cause, v) →
        t.wt = s.wt ∧ t.ct = s.ct ∧ t.lm = s.lm ∧ t.eg = s.eg ∧
        t.evq = (s.record .programRejected (some p.window) none (BitVec.ofNat 32 v.val) cause).evq

/-- STAGE (R138, R139, R140, R142, R143): a refused program changes nothing, BADARG comes before QFULL; behind a head the
program joins at the tail, and the reply is its position; as the head for an OPEN window with contexts under CONTINUE,
the window is DRAINING in sub-state NORMAL and the drain timer starts, with no event. -/
def Obligations.StageQueuesOrDrains : Prop :=
  ∀ (mdi : List Bool) (s : State) (a : List Byte), s.Listening → Executes 0x10 mdi a →
    (stagedProgram a = none → exec (.stage mdi) s = .next (s.replied mdi ⟨.badArg, []⟩)) ∧
    ∀ p, stagedProgram a = some p →
      (4 ≤ s.pa.stage.length → exec (.stage mdi) s = .next (s.replied mdi ⟨.qFull, []⟩)) ∧
      (0 < s.pa.stage.length → s.pa.stage.length < 4 → exec (.stage mdi) s = .next
        (({ s with pa := { s.pa with stage := s.pa.stage ++ [p] } } : State).replied mdi
          ⟨.ok, [BitVec.ofNat 8 (s.pa.stage.length + 1)]⟩)) ∧
      (s.pa.stage = [] → s.NoHeld → (s.win p.window).state = .opened → s.holdsContexts p.window = true →
        (s.win p.window).fields.switch = .continue →
        exec (.stage mdi) s = .next (({ s with
          wt := s.wt.set p.window.val { s.win p.window with state := .draining .normal }
          pa := ⟨[p], some ⟨s.mp.timebase, s.mp.drainLimit⟩⟩ } : State).replied mdi ⟨.ok, [1]⟩))

/-- STAGE to an empty Stage Queue, for an OPEN window with contexts under RESTART (R61, R148): every context of the window is
FREE and off the Commit List, and the program is applied. With a new head that waits, the event records
CONTEXTS_DISCARDED with aux 3, FLUSH_DONE when the removals end a flush, and then PROGRAM_APPLIED by route 4, or
PROGRAM_REJECTED with the window OPEN under its old program and its drops counted (R150); a new head that KEEP discards
is discarded before the apply. -/
def Obligations.StageCutsOver : Prop :=
  ∀ (mdi : List Bool) (s : State) (a : List Byte) (p : Program), s.Listening → Executes 0x10 mdi a →
    stagedProgram a = some p → s.pa.stage = [] → s.NoHeld → (s.win p.window).state = .opened →
    s.holdsContexts p.window = true → (s.win p.window).fields.switch = .restart →
    let w := p.window
    let others := s.ae.commitList.filter (fun i => !(s.ctx i).inWindow w)
    let f := s.flushOf w
    let marks := s.ae.pool.toList.countP (fun x => x.marked w)
    let ended : Prop := 0 < marks ∧ 0 < f.outstanding ∧ f.outstanding ≤ marks
    let u := s.record .contextsDiscarded (some w) none
      (BitVec.ofNat 32 (s.ae.pool.toList.countP (fun x => x.inWindow w))) 3
    let v := if ended then u.record .flushDone (some w) none (BitVec.ofNat 32 f.entered) 0 else u
    let route : State → State := fun x => x.record .programApplied (some w) none (if p.enable then 1 else 0) 4
    let unreadAt : Completed → Bool := fun c =>
      (s.slotAt ((s.win c.acc.window).fields.slotBase.toNat + c.acc.slot)).unread
    let waits : List (Fin 64) → Prop := fun l => ∀ i rest, l = i :: rest → ∃ c, s.ctx i = .committing c ∧
      ((s.win c.acc.window).fields.overrun = .replace ∨ unreadAt c = false)
    (s.conflict p = none →
      ∃ t : State, exec (.stage mdi) s = .next t ∧ t.mp.port = .responseReady ⟨.ok, [1]⟩ ∧ t.pa.stage = [] ∧
        (∀ i, (s.ctx i).inWindow w = true → t.ctx i = .free ∧ i ∉ t.ae.commitList) ∧
        (∀ i, (s.ctx i).isOpen = true → (s.ctx i).inWindow w = false → t.ctx i = s.ctx i) ∧
        t.win w = ⟨if p.enable then .opened else .disabled, p.fields, ⟨0, 0, 0, 0, 0, 0, 0⟩⟩ ∧
        (waits others → t.ae.commitList = others ∧ t.evq = (route v).evq ∧
          (∀ i, (s.ctx i).inWindow w = false → t.ctx i = s.ctx i) ∧
          t.flushOf w = (if 0 < marks ∧ 0 < f.outstanding then ⟨f.outstanding - marks, f.entered⟩ else f)) ∧
        ∀ i rest c, others = i :: rest → s.ctx i = .committing c → (s.win c.acc.window).fields.overrun = .keep →
          unreadAt c = true → c.flushMark = false → waits rest →
          t.ae.commitList = rest ∧ t.ctx i = .free ∧
          (t.win c.acc.window).counters.overruns = (s.win c.acc.window).counters.overruns + 1 ∧
          t.evq = (route (v.record .overrunKept (some c.acc.window) (some c.acc.slot)
            ((s.slotAt ((s.win c.acc.window).fields.slotBase.toNat + c.acc.slot)).seq.setWidth 32) 0)).evq) ∧
    ∀ cause x, s.conflict p = some (cause, x) → waits others →
      ∃ t : State, exec (.stage mdi) s = .next t ∧ t.mp.port = .responseReady ⟨.ok, [1]⟩ ∧ t.pa.stage = [] ∧
        (∀ i, (s.ctx i).inWindow w = true → t.ctx i = .free) ∧ t.ae.commitList = others ∧
        t.win w = { s.win w with counters := { (s.win w).counters with
          dropped := (s.win w).counters.dropped + BitVec.ofNat 32 (s.heldCount w) } } ∧
        (∀ y, y ≠ w → t.win y = s.win y) ∧ t.ct = s.ct ∧ t.eg = s.eg ∧
        t.evq = (v.record .programRejected (some w) none (BitVec.ofNat 32 x.val) cause).evq

/-- WITHDRAW (R154, R155): every program for the window leaves the Stage Queue and the reply counts them; when the head
stays, nothing else changes; when the head leaves and no program is left, its window is OPEN again and the drain timer
stopped, with every context as it was. -/
def Obligations.WithdrawRemovesThePrograms : Prop :=
  ∀ (mdi : List Bool) (s : State) (b : Byte), s.Listening → Executes 0x11 mdi [b] →
    (15 < b.toNat → exec (.withdraw mdi) s = .next (s.replied mdi ⟨.badArg, []⟩)) ∧
    ∀ w : Fin 16, w.val = b.toNat →
      let others := s.pa.stage.filter (fun p => decide (p.window ≠ w))
      let reply : Reply := ⟨.ok, [BitVec.ofNat 8 (s.pa.stage.countP (fun p => decide (p.window = w)))]⟩
      (∃ t : State, exec (.withdraw mdi) s = .next t ∧ t.mp.port = .responseReady reply ∧ ∀ p ∈ t.pa.stage, p.window ≠ w) ∧
      ((∀ p rest, s.pa.stage = p :: rest → p.window ≠ w) →
        exec (.withdraw mdi) s = .next ({ s with pa := { s.pa with stage := others } }.replied mdi reply)) ∧
      ∀ p rest, s.pa.stage = p :: rest → p.window = w → others = [] → s.NoHeld →
        (s.win w).state.isDraining = true →
        exec (.withdraw mdi) s = .next ({ s with
          wt := s.wt.set w.val { s.win w with state := .opened }, pa := ⟨[], none⟩ }.replied mdi reply)

/-- FLUSH (R57, R58): BADARG for a window above 15 or DISABLED, BUSY while its flush-outstanding count is above 0, else
ACCEPTED: FLUSH_DONE at once when the window has no OPEN context; else, when no monitor evaluates the window and the head
of the Commit List waits, every OPEN context of the window is COMMITTING as partial with flush_mark, in ascending slot
order at the tail of the Commit List, the counts are their number and 0, and nothing else changes. When monitors evaluate
the window, behind a waiting head, those that are not withheld join so, each of the others is FREE and counted withheld,
and FLUSH_DONE follows when none is left. -/
def Obligations.FlushCompletesTheWindow : Prop :=
  ∀ (mdi : List Bool) (s : State) (b : Byte), s.Listening → Executes 0x12 mdi [b] →
    (15 < b.toNat → exec (.flush mdi) s = .next (s.replied mdi ⟨.badArg, []⟩)) ∧
    ∀ w : Fin 16, w.val = b.toNat →
      ((s.win w).state = .disabled → exec (.flush mdi) s = .next (s.replied mdi ⟨.badArg, []⟩)) ∧
      ((s.win w).state ≠ .disabled → 0 < (s.flushOf w).outstanding →
        exec (.flush mdi) s = .next (s.replied mdi ⟨.busy, []⟩)) ∧
      ((s.win w).state ≠ .disabled → (s.flushOf w).outstanding = 0 →
        ∃ t : State, exec (.flush mdi) s = .next t ∧ t.mp.port = .responseReady ⟨.accepted, []⟩) ∧
      ((s.win w).state ≠ .disabled → (s.flushOf w).outstanding = 0 → s.openOf w = 0 → HeadWaits s →
        (∀ p rest, s.pa.stage = p :: rest → s.holdsContexts p.window = true) →
        exec (.flush mdi) s = .next
          (((s.setFlush w ⟨0, 0⟩).record .flushDone (some w) none 0 0).replied mdi ⟨.accepted, []⟩)) ∧
      ((s.win w).state ≠ .disabled → (s.flushOf w).outstanding = 0 → 0 < s.openOf w → HeadWaits s →
        (∀ p rest, s.pa.stage = p :: rest → s.holdsContexts p.window = true) →
        (∀ m, (s.mon m).enabled = false ∨ (s.mon m).state = .latched ∨ (s.mon m).mask.getLsbD w.val = false) →
        (s.ae.commitList = [] → (s.win w).fields.overrun = .replace ∨ ∀ i a, s.ctx i = .opened a → a.window = w →
          (s.slotAt ((s.win w).fields.slotBase.toNat + a.slot)).unread = false) →
        ∃ (t : State) (l : List (Fin 64)), exec (.flush mdi) s = .next (t.replied mdi ⟨.accepted, []⟩) ∧
          t = { s with ae := { s.ae with
            pool := t.ae.pool
            commitList := s.ae.commitList ++ l
            flush := s.ae.flush.set w.val ⟨s.openOf w, 0⟩ } } ∧
          l.Nodup ∧ l.length = s.openOf w ∧ (∀ i, i ∈ l ↔ ∃ a, s.ctx i = .opened a ∧ a.window = w) ∧
          l.Pairwise (fun i j => ∀ a b, s.ctx i = .opened a → s.ctx j = .opened b → a.slot ≤ b.slot) ∧
          (∀ i ∉ l, t.ctx i = s.ctx i) ∧
          ∀ i a, s.ctx i = .opened a → a.window = w →
            let x := (s.win w).fields
            let target := x.resultBase.toNat + 8 * a.slot
            t.ctx i = .committing
              { acc := a, isPartial := true, result := formResult (s.applying w a.slot) x a true,
                commitAddress := BitVec.ofNat 40 target, unreachable := decide (2 ^ 40 ≤ target), flushMark := true }) ∧
      ((s.win w).state ≠ .disabled → (s.flushOf w).outstanding = 0 → 0 < s.openOf w → HeadWaits s →
        s.ae.commitList ≠ [] → s.pa.stage = [] → s.NoHeld →
        ∃ (t : State) (l kept : List (Fin 64)), exec (.flush mdi) s = .next t ∧
          (∀ i, i ∈ l ↔ ∃ a, s.ctx i = .opened a ∧ a.window = w) ∧ l.length = s.openOf w ∧
          l.Pairwise (fun i j => ∀ a b, s.ctx i = .opened a → s.ctx j = .opened b → a.slot ≤ b.slot) ∧
          kept.Sublist l ∧ t.ae.commitList = s.ae.commitList ++ kept ∧ t.flushOf w = ⟨kept.length, 0⟩ ∧
          (∀ i ∈ kept, ∃ a c, s.ctx i = .opened a ∧ t.ctx i = .committing c ∧ c.acc = a ∧ c.isPartial = true ∧
            c.flushMark = true) ∧
          (∀ i ∈ l, i ∉ kept → t.ctx i = .free) ∧ (∀ i ∉ l, t.ctx i = s.ctx i) ∧
          (t.win w).counters.withheld = (s.win w).counters.withheld + BitVec.ofNat 32 (l.length - kept.length) ∧
          (t.win w).counters.absorbed = (s.win w).counters.absorbed ∧ t.ig = s.ig ∧ t.eg = s.eg ∧ t.ct = s.ct ∧
          (kept = [] → ∃ u : State, u.mp = s.mp ∧ t.evq = (u.record .flushDone (some w) none 0 0).evq))

/-- ENGINE_RESET (R185) with no request held: the pool is FREE, the Commit List empty, the hold timer and every flush count
cleared, every Slot Status index reset and every COMMIT entry stale, every counter 0, every monitor ARMED, the Stage Queue
empty, a DRAINING window OPEN, the record made; the reply carries the two values. All else survives. -/
def Obligations.EngineResetClearsTheEngine : Prop :=
  ∀ (mdi : List Bool) (s : State), s.Listening → Executes 0x41 mdi [] → s.NoHeld →
    let reply : Reply := ⟨.ok, [BitVec.ofNat 8 (s.openCount + s.committingCount), BitVec.ofNat 8 s.pa.stage.length]⟩
    ∃ t : State, exec (.engineReset mdi) s = .next t ∧
      t.mp = { s.mp with port := .responseReady reply } ∧
      (∀ i, t.ctx i = .free) ∧ t.ae.commitList = [] ∧ t.ae.holdTimer = none ∧ (∀ w, t.flushOf w = ⟨0, 0⟩) ∧
      (∀ i < 1024, t.slotAt i = ⟨0, false⟩) ∧
      t.eg = { s.eg with queue := s.eg.queue.map (EgressEntry.staleWhere (fun _ => true)) } ∧
      (∀ w, t.win w = ⟨if (s.win w).state.isDraining then .opened else (s.win w).state, (s.win w).fields,
        ⟨0, 0, 0, 0, 0, 0, 0⟩⟩) ∧
      (∀ m, t.mon m = { s.mon m with state := .armed, counters := Vector.replicate 16 0 }) ∧
      t.pa = ⟨[], none⟩ ∧ t.ig = s.ig ∧ t.rf = s.rf ∧
      t.evq = (s.record .engineReset none none (BitVec.ofNat 32 (s.openCount + s.committingCount))
        s.pa.stage.length).evq

/-! ### The ingress side -/

/-- The decoder (R4) under the region law (R30): an address in a region of a window that is not DISABLED has that answer,
and every other address has none. -/
def Obligations.DecoderAnswers : Prop :=
  ∀ (s : State) (a : Nat), RegionLaw s →
    (∀ w, (s.win w).decodes = true → (s.win w).fields.capture.has a = true →
      s.decode a = some ⟨w, .capture, (a - (s.win w).fields.captureBase.toNat) / (s.win w).fields.format.width⟩) ∧
    (∀ w, (s.win w).decodes = true → (s.win w).fields.result.has a = true →
      s.decode a = some ⟨w, .result, (a - (s.win w).fields.resultBase.toNat) / 8⟩) ∧
    ((∀ w g, (s.win w).decodes = true → (s.win w).fields.owns g a = false) → s.decode a = none)

/-- A link violation (R1): answered ERROR at once, MALFORMED recorded, and nothing else. A request that IG cannot accept
leaves the part as it is (R2; log 5). -/
def Obligations.LinkViolationIsRefused : Prop :=
  ∀ (s : State) (k : LinkKind) (addr : Addr) (size : BitVec 7) (data : Lanes) (be : BitVec 64), s.hold = .running →
    let r := linkRequest k addr size data be
    (s.ig.intake ≠ .opened ∨ 16 ≤ s.ig.rol.length → exec (.ingressRequest k addr size data be) s = .next s) ∧
    (LinkLaw s → s.ig.intake = .opened → s.ig.rol.length < 16 →
      (size = 0 → exec (.ingressRequest k addr size data be) s = .next
        ((s.accepted r (.ready .error []) .opened).record .malformed none none (addr.setWidth 32) 1)) ∧
      (size ≠ 0 → 64 < addr.toNat % 64 + size.toNat → exec (.ingressRequest k addr size data be) s = .next
        ((s.accepted r (.ready .error []) .opened).record .malformed none none (addr.setWidth 32) 2)))

/-- A READ, and a WRITE that touches no region (R5, R9): offered to the arbiter unchanged, its entry WAITING, and nothing
else. -/
def Obligations.OtherTrafficPasses : Prop :=
  ∀ (s : State) (k : LinkKind) (addr : Addr) (size : BitVec 7) (data : Lanes) (be : BitVec 64), s.hold = .running →
    let r := linkRequest k addr size data be
    s.ig.intake = .opened → s.ig.rol.length < 16 → size ≠ 0 → addr.toNat % 64 + size.toNat ≤ 64 →
    k = .read ∨ (∀ a ∈ r.bytes, s.decode a = none) →
    exec (.ingressRequest k addr size data be) s = .next (s.accepted r .waiting (.offering ⟨r, s.ig.nextLink⟩))

/-- The two refusals (R6, R8): a WRITE touching a result region, then a WRITE touching a capture region with a wrong shape,
its cause the first that holds of 3, 4, 5, 6; answered ERROR at once, the event recorded, and nothing else. -/
def Obligations.WrongWritesAreRefused : Prop :=
  ∀ (s : State) (addr : Addr) (size : BitVec 7) (data : Lanes) (be : BitVec 64), s.hold = .running →
    let r := linkRequest .write addr size data be
    LinkLaw s → s.ig.intake = .opened → s.ig.rol.length < 16 → size ≠ 0 → addr.toNat % 64 + size.toNat ≤ 64 →
    (∀ pre b post d, r.bytes = pre ++ b :: post → s.decode b = some d → d.region = .result →
      (∀ x ∈ pre, ∀ y, s.decode x = some y → y.region ≠ .result) →
      exec (.ingressRequest .write addr size data be) s = .next
        ((s.accepted r (.ready .error []) .opened).record .resultWriteRefused (some d.window) (some d.slot)
          (addr.setWidth 32) 0)) ∧
    (∀ pre b post d, r.bytes = pre ++ b :: post → s.decode b = some d → d.region = .capture →
      (∀ x ∈ r.bytes, ∀ y, s.decode x = some y → y.region ≠ .result) → (∀ x ∈ pre, s.decode x = none) →
      let x := (s.win d.window).fields
      let inside : Prop := ∀ c ∈ r.bytes, ∃ y, s.decode c = some y ∧ y.window = d.window
      let cause : Nat → Prop := fun n =>
        (¬ inside ∧ n = 3) ∨
        (inside ∧ (addr.toNat - x.captureBase.toNat) % x.format.width ≠ 0 ∧ n = 4) ∨
        (inside ∧ (addr.toNat - x.captureBase.toNat) % x.format.width = 0 ∧ size.toNat % x.format.width ≠ 0 ∧ n = 5) ∨
        (inside ∧ (addr.toNat - x.captureBase.toNat) % x.format.width = 0 ∧ size.toNat % x.format.width = 0 ∧
          (∃ e ∈ r.be, e = false) ∧ n = 6)
      ∀ n, cause n → exec (.ingressRequest .write addr size data be) s = .next
        ((s.accepted r (.ready .error []) .opened).record .malformed (some d.window) (some d.slot)
          (addr.setWidth 32) n))

/-- A sample write that the pool does not take (R41, R49, R51): held for DRAIN, held for EXHAUSTION with the hold timer
started, or spilled with its cause and offered unchanged. The release of a held request (R15, R50, R52, R153) sorts it
anew, on its own list entry: refused, passed through, held again (for EXHAUSTION once more with the timer running on),
spilled, or absorbed; every outcome but a renewed EXHAUSTION hold cancels the timer. -/
def Obligations.SampleWriteHeldOrSpilled : Prop :=
  (∀ (s : State) (addr : Addr) (size : BitVec 7) (data : Lanes) (be : BitVec 64) (d : Decoded), s.hold = .running →
    let r := linkRequest .write addr size data be
    let x := (s.win d.window).fields
    let k := size.toNat / x.format.width
    let held : HoldReason → Held := fun why => ⟨r, s.ig.nextLink, why, d.window, d.slot, k⟩
    s.ig.intake = .opened → s.ig.rol.length < 16 → s.sort r = .sampleWrite d →
    ((s.win d.window).state.isDraining = true → 0 < s.needed d.window d.slot k →
      exec (.ingressRequest .write addr size data be) s =
        .next (s.accepted r .waiting (.holding (held .drain)))) ∧
    ((s.win d.window).state = .opened → s.freeCount < s.needed d.window d.slot k →
      (x.exhaust = .hold → s.mp.holdLimit ≠ 0 → exec (.ingressRequest .write addr size data be) s =
        .next ((s.accepted r .waiting (.holding (held .exhaustion))).setHoldTimer
          (some ⟨s.mp.timebase, s.mp.holdLimit⟩))) ∧
      (x.exhaust = .spill ∨ s.mp.holdLimit = 0 → exec (.ingressRequest .write addr size data be) s =
        .next (((s.accepted r .waiting (.offering ⟨r, s.ig.nextLink⟩)).count d.window
            (fun c => { c with spilled := c.spilled + 1 })).record .spill (some d.window) (some d.slot)
              (BitVec.ofNat 32 k) (if x.exhaust = .spill then 1 else 2))))) ∧
  ∀ (s : State) (h : Held), s.ig.intake = .holding h →
    let off : State := { s with ae := { s.ae with holdTimer := none } }
    let answered : LinkStatus → State := fun st => { off with ig := { s.ig with
      rol := s.ig.rol.map (fun x => if x.link = h.link ∧ x.state = .waiting then { x with state := .ready st [] } else x)
      intake := .opened } }
    let offered : State := { off with ig := { s.ig with intake := .offering ⟨h.req, h.link⟩ } }
    (∀ d, s.sort h.req = .resultWrite d → s.release =
      (answered .error).record .resultWriteRefused (some d.window) (some d.slot) (h.req.addr.setWidth 32) 0) ∧
    (∀ d cause, s.sort h.req = .malformed d cause → s.release =
      (answered .error).record .malformed (some d.window) (some d.slot) (h.req.addr.setWidth 32) cause) ∧
    (s.sort h.req = .passThrough → s.release = offered) ∧
    ∀ d, s.sort h.req = .sampleWrite d →
      let x := (s.win d.window).fields
      let k := h.req.size / x.format.width
      let held : HoldReason → Intake := fun why => .holding ⟨h.req, h.link, why, d.window, d.slot, k⟩
      ((s.win d.window).state.isDraining = true → 0 < s.needed d.window d.slot k →
        s.release = { off with ig := { s.ig with intake := held .drain } }) ∧
      ((s.win d.window).state.isDraining = false → s.freeCount < s.needed d.window d.slot k →
        (x.exhaust = .hold → s.mp.holdLimit ≠ 0 → s.release = { s with
          ae := { s.ae with holdTimer := (match h.reason, s.ae.holdTimer with
            | .exhaustion, some t => some t
            | .exhaustion, none => some ⟨s.mp.timebase, s.mp.holdLimit⟩
            | .drain, _ => some ⟨s.mp.timebase, s.mp.holdLimit⟩) }
          ig := { s.ig with intake := held .exhaustion } }) ∧
        (x.exhaust = .spill ∨ s.mp.holdLimit = 0 → s.release =
          (offered.count d.window (fun c => { c with spilled := c.spilled + 1 })).record .spill (some d.window)
            (some d.slot) (BitVec.ofNat 32 k) (if x.exhaust = .spill then 1 else 2))) ∧
      ((s.win d.window).state.isDraining = false ∨ s.needed d.window d.slot k = 0 →
        s.needed d.window d.slot k ≤ s.freeCount →
        s.release.ig = (answered .ok).ig ∧ s.release.ae.holdTimer = none ∧
        (HeadWaits s → (∀ p rest, s.pa.stage = p :: rest → s.holdsContexts p.window = true) → x.ratio.toNat ≠ 1 →
          (∀ j < k, ∀ i a, s.ctx i = .opened a → a.window = d.window → a.slot = d.slot + j →
            a.count + 1 ≠ x.ratio.toNat) →
          (s.release.win d.window).counters.absorbed = (s.win d.window).counters.absorbed + BitVec.ofNat 32 k ∧
          (∀ v, v ≠ d.window → s.release.win v = s.win v) ∧ s.release.evq = s.evq ∧ s.release.eg = s.eg ∧
          s.release.ct = s.ct ∧ s.release.ae.commitList = s.ae.commitList ∧
          ∀ j < k, ∃ i a, s.release.ctx i = .opened a ∧ a.window = d.window ∧ a.slot = d.slot + j ∧
            a.lastSampleTime = s.mp.timebase))

/-- A WRITE that meets the four conditions of R7 is a sample write. A sample write that the pool takes (R11, R32, R41,
R42), in an OPEN window or, when it needs no context, in a DRAINING one: the producer has its OK, and, with no touched
count reaching N, every touched slot's OPEN context has the sample added, one more count and the time of this absorption.
When counts reach N (R43) and no monitor evaluates the window, each of those contexts completes full, in ascending slot
order at the tail of the Commit List. -/
def Obligations.SampleWriteAbsorbed : Prop :=
  (∀ (s : State) (r : Request) (w : Fin 16), RegionLaw s → (s.win w).decodes = true → r.kind = .write → r.size ≠ 0 →
    r.addr.toNat % 64 + r.size ≤ 64 →
    let x := (s.win w).fields
    (∀ a ∈ r.bytes, x.capture.has a = true) → (r.addr.toNat - x.captureBase.toNat) % x.format.width = 0 →
    r.size % x.format.width = 0 → (∀ e ∈ r.be, e = true) →
    s.sort r = .sampleWrite ⟨w, .capture, (r.addr.toNat - x.captureBase.toNat) / x.format.width⟩) ∧
  ∀ (s : State) (addr : Addr) (size : BitVec 7) (data : Lanes) (be : BitVec 64) (d : Decoded), s.hold = .running →
    let r := linkRequest .write addr size data be
    let x := (s.win d.window).fields
    let k := size.toNat / x.format.width
    LinkLaw s → OneOpenPerKey s → HeadWaits s →
    (∀ p rest, s.pa.stage = p :: rest → s.holdsContexts p.window = true) →
    s.ig.intake = .opened → s.ig.rol.length < 16 → s.sort r = .sampleWrite d →
    ((s.win d.window).state = .opened ∧ s.needed d.window d.slot k ≤ s.freeCount) ∨
      ((s.win d.window).state.isDraining = true ∧ s.needed d.window d.slot k = 0) →
    (x.ratio.toNat ≠ 1 →
      (∀ j < k, ∀ i a, s.ctx i = .opened a → a.window = d.window → a.slot = d.slot + j → a.count + 1 ≠ x.ratio.toNat) →
      ∃ t : State, exec (.ingressRequest .write addr size data be) s = .next t ∧
        t.ig = (s.accepted r (.ready .ok []) .opened).ig ∧
        (t.win d.window).counters.absorbed = (s.win d.window).counters.absorbed + BitVec.ofNat 32 k ∧
        (∀ v, v ≠ d.window → t.win v = s.win v) ∧ t.rf = s.rf ∧ t.evq = s.evq ∧ t.eg = s.eg ∧ t.ct = s.ct ∧
        t.lm = s.lm ∧ t.pa = s.pa ∧ t.mp = s.mp ∧ t.ae.commitList = s.ae.commitList ∧
        t.ae.holdTimer = s.ae.holdTimer ∧ t.ae.flush = s.ae.flush ∧
        (∀ j < k, ∃ i a, t.ctx i = .opened a ∧ a.window = d.window ∧ a.slot = d.slot + j ∧
          a.lastSampleTime = s.mp.timebase ∧
          (∀ i' b, s.ctx i' = .opened b → b.window = d.window → b.slot = d.slot + j →
            a.count = b.count + 1 ∧ a.sum = b.sum + sampleAt x.format r.data j) ∧
          (s.lookup d.window (d.slot + j) = none → a.count = 1 ∧ a.sum = sampleAt x.format r.data j)) ∧
        ∀ i, (s.ctx i).isFree = false → (∀ j < k, (s.ctx i).isKey d.window (d.slot + j) = false) →
          t.ctx i = s.ctx i) ∧
    ((∀ m, (s.mon m).enabled = false ∨ (s.mon m).state = .latched ∨ (s.mon m).mask.getLsbD d.window.val = false) →
      (s.ae.commitList = [] → x.overrun = .replace ∨
        ∀ j < k, (s.slotAt (x.slotBase.toNat + (d.slot + j))).unread = false) →
      let before : Nat → Accum := fun j =>
        ((s.lookup d.window (d.slot + j)).bind (fun i => (s.ctx i).acc?)).getD ⟨d.window, d.slot + j, 0, 0, 0⟩
      let now : Nat → Accum := fun j => ⟨d.window, d.slot + j, (before j).sum + sampleAt x.format r.data j,
        (before j).count + 1, s.mp.timebase⟩
      let target : Nat → Nat := fun j => x.resultBase.toNat + 8 * (d.slot + j)
      ∃ (t : State) (full : List (Fin 64)), exec (.ingressRequest .write addr size data be) s = .next t ∧
        t.ig = (s.accepted r (.ready .ok []) .opened).ig ∧
        t.win d.window = { s.win d.window with counters := { (s.win d.window).counters with
          absorbed := (s.win d.window).counters.absorbed + BitVec.ofNat 32 k } } ∧
        (∀ v, v ≠ d.window → t.win v = s.win v) ∧ t.rf = s.rf ∧ t.evq = s.evq ∧ t.eg = s.eg ∧ t.ct = s.ct ∧
        t.lm = s.lm ∧ t.pa = s.pa ∧ t.mp = s.mp ∧ t.ae.commitList = s.ae.commitList ++ full ∧ full.Nodup ∧
        full.Pairwise (fun i j => ∀ a b, t.ctx i = .committing a → t.ctx j = .committing b → a.acc.slot < b.acc.slot) ∧
        full.length = (List.range k).countP (fun j => (before j).count + 1 = x.ratio.toNat) ∧
        (∀ j < k, (before j).count + 1 = x.ratio.toNat → ∃ i ∈ full, t.ctx i = .committing
          { acc := now j, isPartial := false, result := formResult (s.applying d.window (d.slot + j)) x (now j) false,
            commitAddress := BitVec.ofNat 40 (target j), unreachable := decide (2 ^ 40 ≤ target j),
            flushMark := false }) ∧
        (∀ j < k, (before j).count + 1 ≠ x.ratio.toNat → ∃ i, t.ctx i = .opened (now j)) ∧
        ∀ i, (s.ctx i).isFree = false → (∀ j < k, (s.ctx i).isKey d.window (d.slot + j) = false) →
          t.ctx i = s.ctx i)

/-- DELIVER_RESPONSE (R13, R200, R201): a READY head is sent, an OK READ's data on the lanes of its bytes and the other
lanes low, and leaves the list; a WAITING head or an empty list delivers nothing. IGR_VALID is high in the LCLK period of
the delivery, with IGR_STATUS high for ERROR, and low after every command. -/
def Obligations.ReadyHeadIsDelivered : Prop :=
  (∀ s : State, s.hold = .running →
    (s.ig.rol = [] → exec .deliverResponse s = .next s) ∧
    ∀ e rest, s.ig.rol = e :: rest →
      (e.state = .waiting → exec .deliverResponse s = .next s) ∧
      ∀ st data, e.state = .ready st data → ∃ lanes : Lanes,
        exec .deliverResponse s = .next (s.sendHead rest ⟨st, lanes⟩).lowerIgr ∧
        s.sendHead rest ⟨st, lanes⟩ = { s with
          ig := { s.ig with rol := rest }
          pins := { s.pins with igrValid := true, igr := some ⟨st, lanes⟩ } } ∧
        (s.sendHead rest ⟨st, lanes⟩).lowerIgr = { s with
          ig := { s.ig with rol := rest }
          pins := { s.pins with igrValid := false, igr := some ⟨st, lanes⟩ } } ∧
        (s.sendHead rest ⟨st, lanes⟩).igrPins = some ⟨decide (st = .error), lanes⟩ ∧
        ∀ (l : Nat) (hl : l < 64), lanes[l] =
          if e.kind = .read ∧ st = .ok ∧ e.lane ≤ l then data.getD (l - e.lane) 0 else 0) ∧
  (∀ s : State, s.pins.igrValid = false → s.igrPins = none) ∧
  ∀ (c : Instr) (s t : State), s.pins.igrValid = false → exec c s = .next t → t.pins.igrValid = false

/-! ### The timers of the pool and the applier -/

/-- HOLD_TIMER_EXPIRY (R16, R51, R52): the request held for EXHAUSTION leaves the slot and spills with cause AFTER_HOLD;
before the limit has passed nothing happens. Every event that frees a context, or applies, rejects, withdraws or begins to
drain for a head program, and an engine reset, does with a request held what it does without one, and ends in one release
of it (R15, R18, R48, R142, R153, R155); the same rows, where they do none of this, leave it held. -/
def Obligations.HoldTimerExpirySpills : Prop :=
  (∀ (s : State) (h : Held) (tm : Timer), s.hold = .running → s.ig.intake = .holding h → h.reason = .exhaustion →
    s.ae.holdTimer = some tm →
    ((s.mp.timebase - tm.start).toNat < tm.limit.toNat → exec .holdTimerExpiry s = .next s) ∧
    (tm.limit.toNat ≤ (s.mp.timebase - tm.start).toNat → exec .holdTimerExpiry s = .next
      ((({ s with
          ae := { s.ae with holdTimer := none }
          ig := { s.ig with intake := .offering ⟨h.req, h.link⟩ } }).count h.window
            (fun c => { c with spilled := c.spilled + 1 })).record .spill (some h.window) (some h.slot)
              (BitVec.ofNat 32 h.samples) 3))) ∧
  ∀ (s : State) (h : Held), s.Listening → s.ig.intake = .holding h →
    let without : State := { s with ig := { s.ig with intake := .opened } }
    let again : State → State := fun t => { t with ig := { t.ig with intake := .holding h } }
    let freed : State → Prop := fun t => s.freeCount < t.freeCount ∨ t.pa.stage.length < s.pa.stage.length
    (∀ c mdi, c = .commitEntry ∨ c = .drainTimerExpiry ∨ c = .flush mdi ∨ (∃ w slot, c = .idleExpiry w slot) →
      ∃ t, exec c without = .next t ∧ (freed t → exec c s = .next (again t).release) ∧
        (¬ freed t → exec c s = .next (again t))) ∧
    (∀ mdi a p, Executes 0x10 mdi a → stagedProgram a = some p → ∃ t, exec (.stage mdi) without = .next t ∧
      (s.pa.stage = [] → exec (.stage mdi) s = .next (again t).release) ∧
      (s.pa.stage ≠ [] → exec (.stage mdi) s = .next (again t))) ∧
    (∀ mdi b, Executes 0x11 mdi [b] → ∃ t, exec (.withdraw mdi) without = .next t ∧
      ((∃ p rest, s.pa.stage = p :: rest ∧ p.window.val = b.toNat) → exec (.withdraw mdi) s = .next (again t).release) ∧
      ((∀ p rest, s.pa.stage = p :: rest → p.window.val ≠ b.toNat) → exec (.withdraw mdi) s = .next (again t))) ∧
    ∀ mdi, Executes 0x41 mdi [] → ∃ t, exec (.engineReset mdi) without = .next t ∧
      exec (.engineReset mdi) s = .next (again t).release

/-- IDLE_EXPIRY (R53 to R55): with no OPEN context for the key, with idle_limit 0, or before the limit has passed,
nothing happens (logs 2 and 3). With nothing held or staged, at any time from the limit on (log 3's choice), the limit
read from the window's program as it stands (log 31's reading): under DISCARD the context is FREE, its count dropped and
CONTEXTS_DISCARDED recorded; under FLUSH_PARTIAL it completes as partial without flush_mark, and there is nothing more to
the event when it joins behind a waiting head, or an empty list with no KEEP discard to follow. -/
def Obligations.IdleExpiryEndsTheContext : Prop :=
  (∀ (s : State) (w : Fin 16) (slot : Nat), s.hold = .running →
    (∀ i, (s.ctx i).isKey w slot = false) ∨ (s.win w).fields.idleLimit = 0 ∨
      (∀ i a, s.ctx i = .opened a → a.window = w → a.slot = slot →
        (s.mp.timebase - a.lastSampleTime).toNat < (s.win w).fields.idleLimit.toNat) →
    exec (.idleExpiry w slot) s = .next s) ∧
  ∀ (s : State) (i : Fin 64) (a : Accum), s.hold = .running → OneOpenPerKey s → HeadWaits s → s.NoHeld →
    s.pa.stage = [] → s.ctx i = .opened a → (s.win a.window).fields.idleLimit ≠ 0 →
    (s.win a.window).fields.idleLimit.toNat ≤ (s.mp.timebase - a.lastSampleTime).toNat →
    ((s.win a.window).fields.idleAction = .discard → exec (.idleExpiry a.window a.slot) s = .next
      (((s.setCtx i .free).count a.window (fun c => { c with dropped := c.dropped + BitVec.ofNat 32 a.count })).record
        .contextsDiscarded (some a.window) (some a.slot) 1 1)) ∧
    ((s.win a.window).fields.idleAction = .flushPartial →
      s.ae.commitList ≠ [] ∨ (s.win a.window).fields.overrun = .replace ∨
        (s.slotAt ((s.win a.window).fields.slotBase.toNat + a.slot)).unread = false →
      exec (.idleExpiry a.window a.slot) s = .next (s.complete i true false))

/-- A completion (R44, R45, R86, R89, R91): the monitors take their turns M0 to M3 in order on the record formed. When none
withholds it, the context joins the Commit List with the record as they left it, HIT flags included; in particular, when
no monitor evaluates the window, with the record as formed, at its commit address, unreachable when that address lies at
or above 2^40. When a monitor withholds it, the context is FREE, its count is dropped, and WITHHELD is recorded. -/
def Obligations.CompletionOutcome : Prop :=
  ∀ (s : State) (i : Fin 64) (a : Accum) (isPartial mark : Bool), s.ctx i = .opened a →
    let w := a.window
    let x := (s.win w).fields
    let target := x.resultBase.toNat + 8 * a.slot
    let r := formResult (s.rf.toList.find? (fun e => e.enabled && decide (e.window = w) &&
      decide (e.firstSlot.toNat ≤ a.slot) && decide (a.slot ≤ e.lastSlot.toNat))) x a isPartial
    let e := evaluate s w a.slot r
    let joined : State → Result → State := fun u v => { u with ae := { s.ae with
      pool := s.ae.pool.set i.val (.committing
        { acc := a, isPartial := isPartial, result := v, commitAddress := BitVec.ofNat 40 target,
          unreachable := decide (2 ^ 40 ≤ target), flushMark := mark })
      commitList := s.ae.commitList ++ [i] } }
    e = Eval.turn w a.slot (Eval.turn w a.slot (Eval.turn w a.slot (Eval.turn w a.slot ⟨s, r, none⟩ 0) 1) 2) 3 ∧
    (e.withhold = none → s.complete i isPartial mark = joined e.s e.r) ∧
    ((∀ m, (s.mon m).enabled = false ∨ (s.mon m).state = .latched ∨ (s.mon m).mask.getLsbD w.val = false) →
      s.complete i isPartial mark = joined s r) ∧
    ∀ m, e.withhold = some m →
      let t := s.complete i isPartial mark
      t.ae = { s.ae with pool := s.ae.pool.set i.val .free } ∧
      t.win w = { s.win w with counters := { (s.win w).counters with
        dropped := (s.win w).counters.dropped + BitVec.ofNat 32 a.count
        withheld := (s.win w).counters.withheld + 1 } } ∧
      (∀ v, v ≠ w → t.win v = s.win v) ∧ t.lm = e.s.lm ∧ t.ct = s.ct ∧ t.eg = s.eg ∧ t.ig = s.ig ∧
      t.evq = (e.s.record .withheld (some w) (some a.slot) (BitVec.ofNat 32 a.count) m.val).evq

/-- DRAIN_TIMER_EXPIRY (R60, R145), with nothing held and a head that waits; before the limit has passed nothing happens.
DRAIN_FORCED is recorded, the timer stopped and the sub-state FORCED; under DISCARD every OPEN context of the window is
FREE, its count dropped, with one CONTEXTS_DISCARDED when there was one; under FLUSH_PARTIAL, with no monitor evaluating
the window, each is COMMITTING as partial without flush_mark, in ascending slot order at the tail of the Commit List.
When the window's last context goes (R144 to R146), in this event, in an idle expiry under DISCARD or in a commit entry,
the timer is stopped and the program applied in that event, by route FORCED or DRAINED, or rejected with the window OPEN
again. -/
def Obligations.DrainIsForcedAndEnds : Prop :=
  (∀ (s : State) (p : Program) (rest : List Program) (tm : Timer), s.hold = .running → HeadWaits s →
    s.pa.stage = p :: rest → s.pa.drainTimer = some tm → (s.win p.window).state = .draining .normal →
    let w := p.window
    let x := (s.win w).fields
    let sum := (s.ae.pool.toList.map (fun c => if c.isOpen then c.countIn w else 0)).sum
    let dropping : Counters := { (s.win w).counters with dropped := (s.win w).counters.dropped + BitVec.ofNat 32 sum }
    let f := s.record .drainForced (some w) none (BitVec.ofNat 32 (s.openOf w)) 0
    let g := if s.openOf w = 0 then f else f.record .contextsDiscarded (some w) none (BitVec.ofNat 32 (s.openOf w)) 2
    ((s.mp.timebase - tm.start).toNat < tm.limit.toNat → exec .drainTimerExpiry s = .next s) ∧
    (tm.limit.toNat ≤ (s.mp.timebase - tm.start).toNat →
      ((∃ i, (s.ctx i).isCommitting = true ∧ (s.ctx i).inWindow w = true) → s.openOf w = 0 →
        exec .drainTimerExpiry s = .next { f with
          wt := s.wt.set w.val { s.win w with state := .draining .forced }, pa := { s.pa with drainTimer := none } }) ∧
      (x.idleAction = .discard → s.NoHeld → ∃ t : State, exec .drainTimerExpiry s = .next t ∧
        (∀ i, (s.ctx i).isOpen = true → (s.ctx i).inWindow w = true → t.ctx i = .free) ∧
        (∀ i, (s.ctx i).isOpen = false ∨ (s.ctx i).inWindow w = false → (rest = [] ∨ ∃ j,
          (s.ctx j).isCommitting = true ∧ (s.ctx j).inWindow w = true) → t.ctx i = s.ctx i) ∧
        ((∃ i, (s.ctx i).isCommitting = true ∧ (s.ctx i).inWindow w = true) →
          t.win w = ⟨.draining .forced, x, dropping⟩ ∧ t.pa = { s.pa with drainTimer := none } ∧
          t.ae.commitList = s.ae.commitList ∧ t.evq = g.evq) ∧
        ((∀ i, (s.ctx i).isCommitting = true → (s.ctx i).inWindow w = false) → rest = [] → t.pa = ⟨[], none⟩ ∧
          (s.conflict p = none →
            t.win w = ⟨if p.enable then .opened else .disabled, p.fields, ⟨0, 0, 0, 0, 0, 0, 0⟩⟩ ∧
            t.evq = (g.record .programApplied (some w) none (if p.enable then 1 else 0) 3).evq) ∧
          ∀ cause v, s.conflict p = some (cause, v) → t.win w = ⟨.opened, x, dropping⟩ ∧
            t.evq = (g.record .programRejected (some w) none (BitVec.ofNat 32 v.val) cause).evq)) ∧
      (x.idleAction = .flushPartial → 0 < s.openOf w → s.ae.commitList ≠ [] →
        (∀ m, (s.mon m).enabled = false ∨ (s.mon m).state = .latched ∨ (s.mon m).mask.getLsbD w.val = false) →
        ∃ (t : State) (l : List (Fin 64)), exec .drainTimerExpiry s = .next t ∧
          t = { f with
            wt := s.wt.set w.val { s.win w with state := .draining .forced }
            pa := { s.pa with drainTimer := none }
            ae := { s.ae with pool := t.ae.pool, commitList := s.ae.commitList ++ l } } ∧
          l.Nodup ∧ (∀ i, i ∈ l ↔ ∃ a, s.ctx i = .opened a ∧ a.window = w) ∧
          l.Pairwise (fun i j => ∀ a b, s.ctx i = .opened a → s.ctx j = .opened b → a.slot ≤ b.slot) ∧
          (∀ i ∉ l, t.ctx i = s.ctx i) ∧
          ∀ i a, s.ctx i = .opened a → a.window = w →
            let target := x.resultBase.toNat + 8 * a.slot
            t.ctx i = .committing
              { acc := a, isPartial := true, result := formResult (s.applying w a.slot) x a true,
                commitAddress := BitVec.ofNat 40 target, unreachable := decide (2 ^ 40 ≤ target),
                flushMark := false }))) ∧
  ∀ (s : State) (p : Program) (sub : DrainSub) (i : Fin 64), s.hold = .running → s.NoHeld → s.pa.stage = [p] →
    (s.win p.window).state = .draining sub → (s.ctx i).inWindow p.window = true →
    (∀ k, k ≠ i → (s.ctx k).inWindow p.window = false) →
    let w := p.window
    let x := (s.win w).fields
    let reset : Nat → Bool := fun k => x.slots.has k || (p.enable && p.fields.slots.has k)
    let route : Nat := if sub = .forced then 3 else 2
    let applied : State → State := fun u => u.record .programApplied (some w) none (if p.enable then 1 else 0) route
    (∀ a, s.ctx i = .opened a → OneOpenPerKey s → HeadWaits s → x.idleAction = .discard → x.idleLimit ≠ 0 →
      x.idleLimit.toNat ≤ (s.mp.timebase - a.lastSampleTime).toNat →
      let g := s.record .contextsDiscarded (some w) (some a.slot) 1 1
      ∃ t : State, exec (.idleExpiry w a.slot) s = .next t ∧ t.ctx i = .free ∧ (∀ k, k ≠ i → t.ctx k = s.ctx k) ∧
        t.pa = ⟨[], none⟩ ∧ t.ae.commitList = s.ae.commitList ∧
        (s.conflict p = none →
          t.win w = ⟨if p.enable then .opened else .disabled, p.fields, ⟨0, 0, 0, 0, 0, 0, 0⟩⟩ ∧
          (∀ k < 1024, t.slotAt k = if reset k then ⟨0, false⟩ else s.slotAt k) ∧
          t.eg = { s.eg with queue := s.eg.queue.map (EgressEntry.staleWhere reset) } ∧ t.evq = (applied g).evq) ∧
        ∀ cause v, s.conflict p = some (cause, v) → t.ct = s.ct ∧ t.eg = s.eg ∧
          t.win w = ⟨.opened, x, { (s.win w).counters with
            dropped := (s.win w).counters.dropped + BitVec.ofNat 32 a.count }⟩ ∧
          t.evq = (g.record .programRejected (some w) none (BitVec.ofNat 32 v.val) cause).evq) ∧
    ∀ c, s.ctx i = .committing c → s.ae.commitList = [i] → s.eg.queue.length < 16 → c.unreachable = false →
      c.flushMark = false → s.conflict p = none →
      let idx := x.slotBase.toNat + c.acc.slot
      let overran := (s.slotAt idx).unread
      idx < 1024 → (x.overrun = .replace ∨ overran = false) →
      let g := if overran then
        s.record .overrunReplaced (some w) (some c.acc.slot) (((s.slotAt idx).seq + 1).setWidth 32) 0 else s
      ∃ (t : State) (e : EgressEntry), exec .commitEntry s = .next t ∧ t.ctx i = .free ∧ t.ae.commitList = [] ∧
        (∀ k, k ≠ i → t.ctx k = s.ctx k) ∧ t.pa = ⟨[], none⟩ ∧
        t.win w = ⟨if p.enable then .opened else .disabled, p.fields, ⟨0, 0, 0, 0, 0, 0, 0⟩⟩ ∧
        (∀ k < 1024, k ≠ idx → t.slotAt k = if reset k then ⟨0, false⟩ else s.slotAt k) ∧
        (t.slotAt idx = if reset idx then ⟨0, false⟩ else ⟨(s.slotAt idx).seq + 1, true⟩) ∧
        t.eg = { s.eg with queue := (s.eg.queue ++ [e]).map (EgressEntry.staleWhere reset) } ∧
        e.addr = c.commitAddress ∧ e.size = 8 ∧ e.issued = none ∧ t.evq = (applied g).evq

/-! ### Commit entry, consumption, KEEP -/

/-- COMMIT_ENTRY of a reachable record (R103, R104, R118, R123, R59), with nothing held or staged and a next head that
waits: seq and unread, the COMMIT entry, the counters, the context FREE and off the list, OVERRUN_REPLACED on an overrun,
and the flush counts, with a FLUSH_DONE after it (log 9's reading of the order); nothing else changes. -/
def Obligations.CommitEntryCarriesTheRecord : Prop :=
  ∀ (s : State) (i : Fin 64) (rest : List (Fin 64)) (c : Completed), s.hold = .running → CommitListLaw s → s.NoHeld →
    s.pa.stage = [] → s.eg.queue.length < 16 → s.ae.commitList = i :: rest → s.ctx i = .committing c →
    c.unreachable = false →
    let w := c.acc.window
    let idx := (s.win w).fields.slotBase.toNat + c.acc.slot
    let seq := (s.slotAt idx).seq + 1
    let overran := (s.slotAt idx).unread
    idx < 1024 → ((s.win w).fields.overrun = .replace ∨ overran = false) →
    (∀ j tail, rest = j :: tail → ∀ d, s.ctx j = .committing d → (s.win d.acc.window).fields.overrun = .replace ∨
      ((s.win d.acc.window).fields.slotBase.toNat + d.acc.slot ≠ idx ∧
        (s.slotAt ((s.win d.acc.window).fields.slotBase.toNat + d.acc.slot)).unread = false)) →
    let f := s.flushOf w
    let done := c.flushMark && decide (f.outstanding = 1)
    let u := if overran then s.record .overrunReplaced (some w) (some c.acc.slot) (seq.setWidth 32) 0 else s
    ∃ t : State, exec .commitEntry s = .next t ∧
      t.slotAt idx = ⟨seq, true⟩ ∧ (∀ k, k ≠ idx → t.slotAt k = s.slotAt k) ∧
      t.eg = { s.eg with queue := s.eg.queue ++
        [⟨.commit ⟨w, c.acc.slot, seq, idx, false, false⟩, c.commitAddress, 8,
          recordBytes { c.result with flags := { c.result.flags with replaced := c.result.flags.replaced || overran } } seq,
          List.replicate 8 true, none⟩] } ∧
      t.ctx i = .free ∧ (∀ k, k ≠ i → t.ctx k = s.ctx k) ∧ t.ae.commitList = rest ∧
      t.win w = { s.win w with counters := { (s.win w).counters with
        overruns := (s.win w).counters.overruns + (if overran then 1 else 0)
        committedRecords := (s.win w).counters.committedRecords + 1
        committedSamples := (s.win w).counters.committedSamples + BitVec.ofNat 32 c.acc.count } } ∧
      (∀ v, v ≠ w → t.win v = s.win v) ∧
      t.flushOf w = (if c.flushMark = true ∧ 0 < f.outstanding then ⟨f.outstanding - 1, f.entered + 1⟩ else f) ∧
      (∀ v, v ≠ w → t.flushOf v = s.flushOf v) ∧
      t.evq = (if done then u.record .flushDone (some w) none (BitVec.ofNat 32 (f.entered + 1)) 0 else u).evq ∧
      t.ig = s.ig ∧ t.lm = s.lm ∧ t.rf = s.rf ∧ t.pa = s.pa ∧ t.mp = s.mp ∧ t.ae.holdTimer = s.ae.holdTimer

/-- A KEEP discard (R105): a head whose slot's unread flag is yes leaves without a grant; overruns rises, its count is
dropped, the Slot Status record stays, OVERRUN_KEPT carries the current seq, and the next head is tested in turn. With
flush_mark yes the flush-outstanding count falls, the flush-entered count stays, and at 0 FLUSH_DONE follows (R59; that it
comes after OVERRUN_KEPT is log 9's reading). -/
def Obligations.KeepDiscardsTheHead : Prop :=
  ∀ (s : State) (i : Fin 64) (rest : List (Fin 64)) (c : Completed), s.ae.commitList = i :: rest →
    s.ctx i = .committing c → (s.win c.acc.window).fields.overrun = .keep →
    let w := c.acc.window
    let slot := s.slotAt ((s.win w).fields.slotBase.toNat + c.acc.slot)
    let f := s.flushOf w
    let u := s.record .overrunKept (some w) (some c.acc.slot) (slot.seq.setWidth 32) 0
    slot.unread = true →
    ∃ t : State, s.keepRun = t.keepRun ∧ t.ae.commitList = rest ∧ t.ctx i = .free ∧ (∀ k, k ≠ i → t.ctx k = s.ctx k) ∧
      t.win w = { s.win w with counters := { (s.win w).counters with
        overruns := (s.win w).counters.overruns + 1
        dropped := (s.win w).counters.dropped + BitVec.ofNat 32 c.acc.count } } ∧
      (∀ v, v ≠ w → t.win v = s.win v) ∧ t.ct = s.ct ∧ t.eg = s.eg ∧ t.ig = s.ig ∧
      (∀ v, v ≠ w → t.flushOf v = s.flushOf v) ∧
      (c.flushMark = false ∨ f.outstanding = 0 → t.flushOf w = f ∧ t.evq = u.evq) ∧
      (c.flushMark = true → 1 < f.outstanding → t.flushOf w = ⟨f.outstanding - 1, f.entered⟩ ∧ t.evq = u.evq) ∧
      (c.flushMark = true → f.outstanding = 1 → t.flushOf w = ⟨0, f.entered⟩ ∧
        t.evq = (u.record .flushDone (some w) none (BitVec.ofNat 32 f.entered) 0).evq)

/-- The arbiter (R121): with no free position no candidate enters, and while a commit candidate waits the ingress
candidate does not enter. INGRESS_ENTRY (R10, R108, R122), with a free position and no commit candidate: the request
enters exactly as it was accepted, the intake is OPEN, and a READ sets unread to no for every slot whose record bytes it
touches; a WRITE consumes nothing. -/
def Obligations.IngressEntryEntersAndConsumes : Prop :=
  (∀ s : State, s.hold = .running →
    (s.eg.queue.length = 16 → exec .commitEntry s = .next s ∧ exec .ingressEntry s = .next s) ∧
    (s.commitCandidate ≠ none → exec .ingressEntry s = .next s) ∧
    (s.commitCandidate = none → exec .commitEntry s = .next s)) ∧
  ∀ (s : State) (o : Offer), s.hold = .running → s.ig.intake = .offering o → s.eg.queue.length < 16 →
    s.commitCandidate = none →
    ∃ ct, exec .ingressEntry s = .next { s with
        ig := { s.ig with intake := .opened }
        eg := { s.eg with queue := s.eg.queue ++
          [⟨if o.req.kind = .read then .passRead o.link else .passWrite o.link, o.req.addr, o.req.size, o.req.data,
            o.req.be, none⟩] }
        ct := ct } ∧
      (o.req.kind = .write → ct = s.ct) ∧
      (o.req.kind = .read → ∀ (k : Nat) (hk : k < 1024),
        ((∃ a ∈ o.req.bytes, ∃ d, s.decode a = some d ∧ d.region = .result ∧
          (s.win d.window).fields.slotBase.toNat + d.slot = k) → ct[k] = { s.ct[k] with unread := false }) ∧
        ((∀ a ∈ o.req.bytes, ∀ d, s.decode a = some d → d.region = .result →
          (s.win d.window).fields.slotBase.toNat + d.slot ≠ k) → ct[k] = s.ct[k]))

/-! ### The egress link -/

/-- ISSUE (R124, R126, R127, R201): the oldest WAITING entry goes to memory when it is reachable, the issue limit has room
and the controller can take it; as the only ISSUED entry it starts the response timer; else nothing happens. EGQ_VALID is
high exactly while it may issue, with EGQ_KIND high for a WRITE, the byte count on EGQ_SIZE, and the data and byte
enables on the lanes of their bytes. -/
def Obligations.IssueSendsTheOldestWaiting : Prop :=
  ∀ (s : State) (pre post : List EgressEntry) (e : EgressEntry), s.hold = .running →
    s.eg.queue = pre ++ e :: post → (∀ x ∈ pre, x.isIssued = true) → e.isIssued = false → e.isUnreachable = false →
    (∀ x ∈ post, x.isIssued = false) → (∀ x tail, post = x :: tail → x.isUnreachable = false) →
    1 ≤ s.mp.responseLimit.toNat →
    let kind : LinkKind :=
      match e.work with
      | .passRead _ => .read
      | .passWrite _ => .write
      | .commit _ => .write
    let sent : Request := ⟨kind, e.addr, e.size, e.data, e.be⟩
    (pre.length + s.eg.abandoned < 16 → exec (.issue true) s = .next { s with
      eg := { s.eg with
        queue := pre ++ { e with issued := some s.mp.timebase } :: post
        timer := if pre = [] then some s.mp.responseLimit else s.eg.timer }
      pins := { s.pins with egq := some sent } }) ∧
    (pre.length + s.eg.abandoned < 16 → s.egqValid = true ∧ ∃ (data : Lanes) (be : BitVec 64),
      s.egqPins = some ⟨decide (kind = .write), e.addr, BitVec.ofNat 7 e.size, data, be⟩ ∧
      (∀ (j : Nat) (hj : e.addr.toNat % 64 + j < 64), j < e.data.length →
        data[e.addr.toNat % 64 + j] = e.data.getD j 0) ∧
      (e.addr.toNat % 64 + e.be.length ≤ 64 →
        ∀ j < e.be.length, be.getLsbD (e.addr.toNat % 64 + j) = e.be.getD j false)) ∧
    (16 ≤ pre.length + s.eg.abandoned → s.egqValid = false ∧ s.egqPins = none) ∧
    (16 ≤ pre.length + s.eg.abandoned → exec (.issue true) s = .next s) ∧
    exec (.issue false) s = .next s

/-- An unreachable record (R77, R111, R112, R125): granted into a queue with no WAITING entry it takes its seq, is counted,
and its entry leaves at once; behind a reachable WAITING entry it joins the queue; and when the entry ahead of a run of
unreachable ones issues, they leave one after another in that event. None of them is ever sent, COMMIT_ERROR with aux 2
is recorded for each as it leaves, and the slot's unread flag is no when the entry's seq is still the slot's. -/
def Obligations.UnreachableCommitFails : Prop :=
  (∀ (s : State) (i : Fin 64) (c : Completed), s.hold = .running → s.NoHeld → s.pa.stage = [] →
    s.eg.queue.length < 16 → s.ae.commitList = [i] → s.ctx i = .committing c → c.unreachable = true →
    c.flushMark = false →
    let w := c.acc.window
    let idx := (s.win w).fields.slotBase.toNat + c.acc.slot
    let seq := (s.slotAt idx).seq + 1
    idx < 1024 → (s.slotAt idx).unread = false →
    ((∀ e ∈ s.eg.queue, e.isIssued = true) →
      ∃ t : State, exec .commitEntry s = .next t ∧ t.slotAt idx = ⟨seq, false⟩ ∧
        (∀ k, k ≠ idx → t.slotAt k = s.slotAt k) ∧ t.eg = s.eg ∧ t.pins = s.pins ∧ t.ctx i = .free ∧
        t.ae.commitList = [] ∧
        (t.win w).counters.committedRecords = (s.win w).counters.committedRecords + 1 ∧
        t.evq = (s.record .commitError (some w) (some c.acc.slot) (seq.setWidth 32) 2).evq) ∧
    ∀ pre e post, s.eg.queue = pre ++ e :: post → (∀ x ∈ pre, x.isIssued = true) → e.isIssued = false →
      e.isUnreachable = false →
      ∃ (t : State) (x : EgressEntry), exec .commitEntry s = .next t ∧ t.slotAt idx = ⟨seq, true⟩ ∧
        (∀ k, k ≠ idx → t.slotAt k = s.slotAt k) ∧ t.eg = { s.eg with queue := s.eg.queue ++ [x] } ∧
        x.isUnreachable = true ∧ x.isIssued = false ∧ t.pins = s.pins ∧ t.ctx i = .free ∧ t.ae.commitList = [] ∧
        (t.win w).counters.committedRecords = (s.win w).counters.committedRecords + 1 ∧ t.evq = s.evq) ∧
  ∀ (s : State) (pre : List EgressEntry) (e : EgressEntry) (run post : List EgressEntry), s.hold = .running →
    s.eg.queue = pre ++ e :: (run ++ post) → (∀ x ∈ pre, x.isIssued = true) → e.isIssued = false →
    e.isUnreachable = false → (∀ x ∈ run ++ post, x.isIssued = false) → (∀ x ∈ run, x.isUnreachable = true) →
    (∀ x tail, post = x :: tail → x.isUnreachable = false) → pre.length + s.eg.abandoned < 16 →
    1 ≤ s.mp.responseLimit.toNat →
    let kind : LinkKind :=
      match e.work with
      | .passRead _ => .read
      | .passWrite _ => .write
      | .commit _ => .write
    let sent : State := { s with
      eg := { s.eg with
        queue := pre ++ { e with issued := some s.mp.timebase } :: post
        timer := if pre = [] then some s.mp.responseLimit else s.eg.timer }
      pins := { s.pins with egq := some ⟨kind, e.addr, e.size, e.data, e.be⟩ } }
    let failed : State → EgressEntry → State := fun u x =>
      match x.work with
      | .passRead _ => u
      | .passWrite _ => u
      | .commit l =>
        let v := u.record .commitError (some l.window) (some l.slot) (l.seq.setWidth 32) 2
        if l.stale = false ∧ (u.slotAt l.index).seq = l.seq then
          { v with ct := u.ct.setIfInBounds l.index ⟨l.seq, false⟩ } else v
    exec (.issue true) s = .next (run.foldl failed sent)

/-- EGRESS_RESPONSE (R12, R111, R112, R127 to R129, R132): with the abandoned count above 0 the response is discarded
and counted off; with no ISSUED entry it is unmatched; both record LATE_RESPONSE and change nothing else. Otherwise it
answers the oldest ISSUED entry: that entry leaves, its result is handed on by its kind, and the timer moves to the next
ISSUED entry. The ISSUED entries behind it whose limit has passed already (`old`) time out one after another in the same
event. -/
def Obligations.ResponseCompletesItsEntry : Prop :=
  ∀ (s : State) (st : LinkStatus) (data : Lanes), s.hold = .running →
    (∀ n, s.eg.abandoned = n + 1 → exec (.egressResponse st data) s = .next
      (({ s with eg := { s.eg with abandoned := n } } : State).record .lateResponse none none (BitVec.ofNat 32 n) 1)) ∧
    (s.eg.abandoned = 0 → (∀ e ∈ s.eg.queue, e.isIssued = false) → exec (.egressResponse st data) s = .next
      (s.record .lateResponse none none 0 2)) ∧
    ∀ (e : EgressEntry) (old post : List EgressEntry), s.eg.abandoned = 0 → s.eg.queue = e :: (old ++ post) →
      e.isIssued = true →
      (∀ x ∈ old, x.isIssued = true ∧ s.mp.responseLimit.toNat ≤ x.age s.mp.timebase) →
      (∀ x ∈ post, x.isIssued = true → x.age s.mp.timebase < s.mp.responseLimit.toNat) →
      let t : State := { s with eg :=
        { queue := post, abandoned := old.length
          timer := if post.any EgressEntry.isIssued then some s.mp.responseLimit else none } }
      let bytes := (List.range e.size).map (fun j => data.toList.getD ((e.addr.toNat % 64 + j) % 64) 0)
      let answered : State → Nat → LinkStatus → List Byte → State := fun u link st d => { u with ig := { u.ig with
        rol := u.ig.rol.map (fun x => if x.link = link ∧ x.state = .waiting then { x with state := .ready st d } else x) } }
      let failed : State → State → CommitLink → State := fun u v l =>
        if l.stale = false ∧ (u.slotAt l.index).seq = l.seq then
          { v with ct := u.ct.setIfInBounds l.index ⟨l.seq, false⟩ } else v
      let gone : State → EgressEntry → State := fun u x =>
        match x.work with
        | .passRead link => answered (u.record .memoryTimeout none none (x.addr.setWidth 32) 1) link .error []
        | .passWrite link => answered (u.record .memoryTimeout none none (x.addr.setWidth 32) 2) link .error []
        | .commit l => failed u (u.record .memoryTimeout (some l.window) (some l.slot) (l.seq.setWidth 32) 3) l
      (∀ link, e.work = .passRead link → exec (.egressResponse st data) s =
        .next (old.foldl gone (answered t link st (if st = .ok then bytes else [])))) ∧
      (∀ link, e.work = .passWrite link → exec (.egressResponse st data) s =
        .next (old.foldl gone (answered t link st []))) ∧
      (∀ l, e.work = .commit l → st = .ok → exec (.egressResponse st data) s = .next (old.foldl gone t)) ∧
      (∀ l, e.work = .commit l → st = .error → exec (.egressResponse st data) s = .next
        (old.foldl gone (failed t (t.record .commitError (some l.window) (some l.slot) (l.seq.setWidth 32) 1) l)))

/-- RESPONSE_TIMEOUT (R127, R130, R133): the oldest ISSUED entry leaves with ERROR, the abandoned count rises,
MEMORY_TIMEOUT is recorded, and the timer moves to the next ISSUED entry; those behind it whose limit has passed already
(`old`) time out one after another in the same event. Before the limit has passed nothing happens. -/
def Obligations.ResponseTimeoutAbandonsTheEntry : Prop :=
  ∀ (s : State) (e : EgressEntry) (old post : List EgressEntry) (limit : BitVec 16) (t0 : Time), s.hold = .running →
    s.eg.queue = e :: (old ++ post) → e.issued = some t0 → s.eg.timer = some limit →
    (∀ x ∈ old, x.isIssued = true ∧ s.mp.responseLimit.toNat ≤ x.age s.mp.timebase) →
    (∀ x ∈ post, x.isIssued = true → x.age s.mp.timebase < s.mp.responseLimit.toNat) →
    let t : State := { s with eg :=
      { queue := post, abandoned := s.eg.abandoned + 1 + old.length
        timer := if post.any EgressEntry.isIssued then some s.mp.responseLimit else none } }
    let refused : State → Nat → State := fun u link => { u with ig := { u.ig with
      rol := u.ig.rol.map
        (fun x => if x.link = link ∧ x.state = .waiting then { x with state := .ready .error [] } else x) } }
    let gone : State → EgressEntry → State := fun u x =>
      match x.work with
      | .passRead link => refused (u.record .memoryTimeout none none (x.addr.setWidth 32) 1) link
      | .passWrite link => refused (u.record .memoryTimeout none none (x.addr.setWidth 32) 2) link
      | .commit l =>
        let v := u.record .memoryTimeout (some l.window) (some l.slot) (l.seq.setWidth 32) 3
        if l.stale = false ∧ (u.slotAt l.index).seq = l.seq then
          { v with ct := u.ct.setIfInBounds l.index ⟨l.seq, false⟩ } else v
    ((s.mp.timebase - t0).toNat < limit.toNat → exec .responseTimeout s = .next s) ∧
    (limit.toNat ≤ (s.mp.timebase - t0).toNat → exec .responseTimeout s = .next ((e :: old).foldl gone t))

/-! ### The laws -/

/-- Every law below holds at reset. -/
def Obligations.LawsHoldAtReset : Prop :=
  let s := State.reset
  AlertLaw s ∧ LossLaw s ∧ CapacityLaw s ∧ IssueLaw s ∧ QueueOrderLaw s ∧ ResponseTimerLaw s ∧ HoldTimerLaw s ∧
  PoolLaw s ∧ CountLaw s ∧ DrainLaw s ∧ RegionLaw s ∧ ConservationLaw s ∧ LinkLaw s ∧ OwnerLaw s ∧ CommitHeadLaw s ∧
  MonitorLaw s

/-- Every step keeps the alert law (R168). -/
def Obligations.AlertLawKept : Prop := ∀ s t : State, AlertLaw s → step s = .next t → AlertLaw t

/-- Every step keeps the loss law (R161) and the capacity of the Event Queue (R160). -/
def Obligations.LossLawKept : Prop := ∀ s t : State, LossLaw s → step s = .next t → LossLaw t

/-- Every step keeps the capacities of the Response Order List (R3), the Egress Queue (R119) and the Stage Queue (R137),
and that the names the model gives the list's entries rise (log 15); with them, that every WAITING entry of the list has
exactly one request in the part, offered, held or a PASS entry, that will answer it, and no READY entry has one (R3, R9,
R12, R14). -/
def Obligations.CapacityAndLinkLawsKept : Prop :=
  (∀ s t : State, CapacityLaw s → step s = .next t → CapacityLaw t) ∧
  (∀ s t : State, LinkLaw s → step s = .next t → LinkLaw t) ∧
  ∀ s t : State, LinkLaw s → OwnerLaw s → step s = .next t → OwnerLaw t

/-- Every step keeps the issue law (R126) together with the order of the Egress Queue (R119). -/
def Obligations.IssueLawKept : Prop :=
  ∀ s t : State, IssueLaw s ∧ QueueOrderLaw s → step s = .next t → IssueLaw t ∧ QueueOrderLaw t

/-- Every step keeps the rule that the response timer runs exactly while an entry is ISSUED (R127). -/
def Obligations.ResponseTimerLawKept : Prop :=
  ∀ s t : State, ResponseTimerLaw s → step s = .next t → ResponseTimerLaw t

/-- Every step keeps the rule that the hold timer runs exactly while a request is held for EXHAUSTION (R14, R50). -/
def Obligations.HoldTimerLawKept : Prop := ∀ s t : State, HoldTimerLaw s → step s = .next t → HoldTimerLaw t

/-- The pool laws (R39, R46): FREE, OPEN and COMMITTING contexts number 64 in every state; the Commit List is as long as
there are COMMITTING contexts; and every step keeps R46 and the one OPEN context for a key. -/
def Obligations.PoolLawKept : Prop :=
  (∀ s : State, s.freeCount + s.openCount + s.committingCount = 64) ∧
  (∀ s : State, PoolLaw s → s.ae.commitList.length = s.committingCount) ∧
  ∀ s t : State, PoolLaw s → step s = .next t → PoolLaw t

/-- Every step keeps the third pool law (R39): the count of an OPEN context lies between 1 and N - 1. -/
def Obligations.CountLawKept : Prop := ∀ s t : State, CountLaw s → step s = .next t → CountLaw t

/-- Every step keeps the drain law (R149). -/
def Obligations.DrainLawKept : Prop := ∀ s t : State, DrainLaw s → step s = .next t → DrainLaw t

/-- Every step keeps the region law (R30). -/
def Obligations.RegionLawKept : Prop := ∀ s t : State, RegionLaw s → step s = .next t → RegionLaw t

/-- Every step keeps the conservation law (R36), with a DISABLED window holding no context (R25). -/
def Obligations.ConservationLawKept : Prop := ∀ s t : State, ConservationLaw s → step s = .next t → ConservationLaw t

/-- Every step leaves no head of the Commit List that is to be discarded under KEEP (R105, R120). -/
def Obligations.CommitHeadLawKept : Prop := ∀ s t : State, CommitHeadLaw s → step s = .next t → CommitHeadLaw t

/-- Every step keeps a disabled monitor ARMED (R84) and every persistence counter below P or at 0 (R85). -/
def Obligations.MonitorLawKept : Prop := ∀ s t : State, MonitorLaw s → step s = .next t → MonitorLaw t
end

