-- ==== Sys2Proof/Laws/Decoder.lean ====
section
/-! SUPPORT. The comparison of R29, point by point: when two ranges overlap, and which windows are in conflict. -/

namespace Sys2Proof.Machine

/-- Two half-open intervals overlap when they have a point in common, so those that only meet do not (R29). -/
theorem Span.overlaps_iff (x y : Span) : x.overlaps y = true ↔ ∃ a, x.has a = true ∧ y.has a = true := by
  simp only [Span.overlaps, Span.has, decide_eq_true_eq]
  constructor
  · intro h
    exact ⟨Nat.max x.lo y.lo, ⟨Nat.le_max_left .., (Nat.lt_of_lt_of_le h (Nat.min_le_left ..))⟩,
      Nat.le_max_right .., (Nat.lt_of_lt_of_le h (Nat.min_le_right ..))⟩
  · rintro ⟨a, hx, hy⟩
    exact Nat.lt_of_le_of_lt (Nat.max_le.2 ⟨hx.1, hy.1⟩) (Nat.lt_min.2 ⟨hx.2, hy.2⟩)

/-- Two programs' regions overlap when a byte lies in a region of each (R29). -/
theorem Fields.regionOverlap_iff (x y : Fields) : x.regionOverlap y = true ↔
    ∃ a, (x.capture.has a = true ∨ x.result.has a = true) ∧ (y.capture.has a = true ∨ y.result.has a = true) := by
  simp only [Fields.regionOverlap, Bool.or_eq_true, Span.overlaps_iff]
  constructor
  · rintro (((⟨a, h⟩ | ⟨a, h⟩) | ⟨a, h⟩) | ⟨a, h⟩) <;> exact ⟨a, by tauto⟩
  · rintro ⟨a, h | h, k | k⟩
    · exact Or.inl (Or.inl (Or.inl ⟨a, h, k⟩))
    · exact Or.inl (Or.inl (Or.inr ⟨a, h, k⟩))
    · exact Or.inl (Or.inr ⟨a, h, k⟩)
    · exact Or.inr ⟨a, h, k⟩

/-- A window in a region conflict: the program's own when its two regions meet, else one that decodes (R29, R150). -/
theorem State.mem_regionConflicts (s : State) (p : Program) (v : Fin 16) : v ∈ s.regionConflicts p ↔
    (v = p.window ∧ ∃ a, p.fields.capture.has a = true ∧ p.fields.result.has a = true) ∨
    (v ≠ p.window ∧ (s.win v).decodes = true ∧ p.fields.regionOverlap (s.win v).fields = true) := by
  simp only [State.regionConflicts, List.mem_filter, List.mem_finRange, true_and, ← Span.overlaps_iff]
  split <;> simp_all

/-- A window in a slot conflict (R29, R150). -/
theorem State.mem_slotConflicts (s : State) (p : Program) (v : Fin 16) : v ∈ s.slotConflicts p ↔
    v ≠ p.window ∧ (s.win v).decodes = true ∧
      ∃ k, p.fields.slots.has k = true ∧ (s.win v).fields.slots.has k = true := by
  simp only [State.slotConflicts, List.mem_filter, List.mem_finRange, true_and, Fields.slotOverlap, ← Span.overlaps_iff]
  split <;> simp_all

/-- The head of a filtered list of windows is the lowest that the filter keeps. -/
theorem filter_finRange_eq_cons {f : Fin 16 → Bool} {v : Fin 16} {rest : List (Fin 16)}
    (h : (List.finRange 16).filter f = v :: rest) : f v = true ∧ ∀ u, u < v → f u = false := by
  have hm : v ∈ (List.finRange 16).filter f := by rw [h]; exact List.mem_cons_self
  have hs : ((List.finRange 16).filter f).Pairwise (· < ·) := (List.pairwise_lt_finRange 16).filter _
  rw [h] at hs
  refine ⟨(List.mem_filter.1 hm).2, fun u hu => ?_⟩
  by_contra hf
  have hu' : u ∈ (List.finRange 16).filter f := List.mem_filter.2 ⟨List.mem_finRange u, by simpa using hf⟩
  rw [h] at hu'
  rcases List.mem_cons.1 hu' with rfl | hr
  · exact absurd hu (lt_irrefl _)
  · exact absurd (lt_trans hu ((List.pairwise_cons.1 hs).1 u hr)) (lt_irrefl _)

end Sys2Proof.Machine
end

