-- ==== Sys2Proof/Laws/Tables.lean ====
section
/-! SUPPORT. What the table helpers read, and the bits and bytes of a frame on the wire. -/

namespace Sys2Proof.Machine

@[simp] theorem getElem_tabulate {α : Type} (n : Nat) (f : Nat → α) (i : Nat) (h : i < n) : (tabulate n f)[i] = f i := by
  simp [tabulate]

@[simp] theorem getElem_mapV {α β : Type} {n : Nat} (f : α → β) (v : Vector α n) (i : Nat) (h : i < n) :
    (mapV f v)[i] = f v[i] := by
  simp [mapV]

@[simp] theorem getElem_mapIdxV {α β : Type} {n : Nat} (f : Nat → α → β) (v : Vector α n) (i : Nat) (h : i < n) :
    (mapIdxV f v)[i] = f i v[i] := by
  simp [mapIdxV]

@[simp] theorem length_leBytes (n w : Nat) : (leBytes n w).length = w := by simp [leBytes]

theorem byteOfBits_bitsOfByte (b : Byte) : byteOfBits (bitsOfByte b) = b := by
  revert b
  decide +kernel

@[simp] theorem length_bitsOfByte (b : Byte) : (bitsOfByte b).length = 8 := rfl

@[simp] theorem length_wire (bs : List Byte) : (wire bs).length = 8 * bs.length := by
  induction bs with
  | nil => rfl
  | cons b bs ih => simp only [wire, List.flatMap_cons, List.length_append, List.length_cons] at ih ⊢; simp [ih]; omega

/-- The complete bytes of bytes on the wire with any bits after them. -/
theorem completeBytes_wire_append (bs : List Byte) (extra : List Bool) :
    completeBytes (wire bs ++ extra) = bs ++ completeBytes extra := by
  induction bs with
  | nil => rfl
  | cons b bs ih =>
    have h : wire (b :: bs) ++ extra = bitsOfByte b ++ (wire bs ++ extra) := by simp [wire]
    rw [h]
    simp only [bitsOfByte, List.cons_append, List.nil_append, completeBytes, ih]
    have hb := byteOfBits_bitsOfByte b
    simp only [bitsOfByte] at hb
    rw [hb]

/-- Fewer than eight bits make no complete byte. -/
theorem completeBytes_short (l : List Bool) (h : l.length < 8) : completeBytes l = [] := by
  match l with
  | [] | [_] | [_, _] | [_, _, _] | [_, _, _, _] | [_, _, _, _, _] | [_, _, _, _, _, _] | [_, _, _, _, _, _, _] => rfl
  | _ :: _ :: _ :: _ :: _ :: _ :: _ :: _ :: _ => simp at h; omega

/-- The complete bytes of bytes on the wire. -/
theorem completeBytes_wire (bs : List Byte) : completeBytes (wire bs) = bs := by
  have h := completeBytes_wire_append bs []
  simpa [completeBytes] using h

/-- Little-endian bytes read back as the number, if it fits. -/
theorem leNat_leBytes (w n : Nat) (h : n < 256 ^ w) : leNat (leBytes n w) = n := by
  induction w generalizing n with
  | zero => simp at h; simp [leBytes, leNat, h]
  | succ w ih =>
    have hs : leBytes n (w + 1) = BitVec.ofNat 8 n :: leBytes (n / 256) w := by
      simp only [leBytes, List.range_succ_eq_map, List.map_cons, List.map_map]
      refine congrArg₂ _ (by simp) (List.map_congr_left fun i _ => ?_)
      simp only [Function.comp, Nat.shiftRight_eq_div_pow]
      rw [show 8 * (i + 1) = 8 + 8 * i by ring, pow_add, ← Nat.div_div_eq_div_mul]
      rfl
    rw [hs, leNat, ih _ (by rw [pow_succ] at h; omega)]
    simp only [BitVec.toNat_ofNat]
    omega

/-- The complete check: a message followed by its CRC-8 leaves remainder 0, so the check closes every frame (R176). -/
theorem crcByte_self (c : Byte) : crcByte c c = 0 := by
  revert c
  decide +kernel

end Sys2Proof.Machine
end

