-- ==== Sys2Proof/Laws/State.lean ====
section
/-! SUPPORT. One lemma per field per update of State: what the field reads after it, so that no later proof unfolds a
record update. -/

namespace Sys2Proof.Machine

section
variable (s : State) (k : EventKind) (w : Option (Fin 16)) (slot : Option Nat) (d : BitVec 32) (n : Nat)
@[simp] theorem State.record_hold : (s.record k w slot d n).hold = s.hold := rfl
@[simp] theorem State.record_ig : (s.record k w slot d n).ig = s.ig := rfl
@[simp] theorem State.record_wt : (s.record k w slot d n).wt = s.wt := rfl
@[simp] theorem State.record_ae : (s.record k w slot d n).ae = s.ae := rfl
@[simp] theorem State.record_rf : (s.record k w slot d n).rf = s.rf := rfl
@[simp] theorem State.record_lm : (s.record k w slot d n).lm = s.lm := rfl
@[simp] theorem State.record_ct : (s.record k w slot d n).ct = s.ct := rfl
@[simp] theorem State.record_eg : (s.record k w slot d n).eg = s.eg := rfl
@[simp] theorem State.record_pa : (s.record k w slot d n).pa = s.pa := rfl
@[simp] theorem State.record_mp : (s.record k w slot d n).mp = s.mp := rfl
@[simp] theorem State.record_pins : (s.record k w slot d n).pins = s.pins := rfl
@[simp] theorem State.record_mcsLow : (s.record k w slot d n).mcsLow = s.mcsLow := rfl
@[simp] theorem State.record_freeIdx : (s.record k w slot d n).freeIdx = s.freeIdx := rfl
@[simp] theorem State.record_pending : (s.record k w slot d n).pending = s.pending := rfl
end

section
variable (s : State) (w : Fin 16) (x : Window)
@[simp] theorem State.setWin_hold : (s.setWin w x).hold = s.hold := rfl
@[simp] theorem State.setWin_ig : (s.setWin w x).ig = s.ig := rfl
@[simp] theorem State.setWin_wt : (s.setWin w x).wt = s.wt.set w.val x := rfl
@[simp] theorem State.setWin_ae : (s.setWin w x).ae = s.ae := rfl
@[simp] theorem State.setWin_rf : (s.setWin w x).rf = s.rf := rfl
@[simp] theorem State.setWin_lm : (s.setWin w x).lm = s.lm := rfl
@[simp] theorem State.setWin_ct : (s.setWin w x).ct = s.ct := rfl
@[simp] theorem State.setWin_eg : (s.setWin w x).eg = s.eg := rfl
@[simp] theorem State.setWin_pa : (s.setWin w x).pa = s.pa := rfl
@[simp] theorem State.setWin_evq : (s.setWin w x).evq = s.evq := rfl
@[simp] theorem State.setWin_mp : (s.setWin w x).mp = s.mp := rfl
@[simp] theorem State.setWin_pins : (s.setWin w x).pins = s.pins := rfl
@[simp] theorem State.setWin_mcsLow : (s.setWin w x).mcsLow = s.mcsLow := rfl
@[simp] theorem State.setWin_freeIdx : (s.setWin w x).freeIdx = s.freeIdx := rfl
@[simp] theorem State.setWin_pending : (s.setWin w x).pending = s.pending := rfl
end

section
variable (s : State) (w : Fin 16) (x : WState)
@[simp] theorem State.setWinState_hold : (s.setWinState w x).hold = s.hold := rfl
@[simp] theorem State.setWinState_ig : (s.setWinState w x).ig = s.ig := rfl
@[simp] theorem State.setWinState_wt : (s.setWinState w x).wt = s.wt.set w.val { s.win w with state := x } := rfl
@[simp] theorem State.setWinState_ae : (s.setWinState w x).ae = s.ae := rfl
@[simp] theorem State.setWinState_rf : (s.setWinState w x).rf = s.rf := rfl
@[simp] theorem State.setWinState_lm : (s.setWinState w x).lm = s.lm := rfl
@[simp] theorem State.setWinState_ct : (s.setWinState w x).ct = s.ct := rfl
@[simp] theorem State.setWinState_eg : (s.setWinState w x).eg = s.eg := rfl
@[simp] theorem State.setWinState_pa : (s.setWinState w x).pa = s.pa := rfl
@[simp] theorem State.setWinState_evq : (s.setWinState w x).evq = s.evq := rfl
@[simp] theorem State.setWinState_mp : (s.setWinState w x).mp = s.mp := rfl
@[simp] theorem State.setWinState_pins : (s.setWinState w x).pins = s.pins := rfl
@[simp] theorem State.setWinState_mcsLow : (s.setWinState w x).mcsLow = s.mcsLow := rfl
@[simp] theorem State.setWinState_freeIdx : (s.setWinState w x).freeIdx = s.freeIdx := rfl
@[simp] theorem State.setWinState_pending : (s.setWinState w x).pending = s.pending := rfl
end

section
variable (s : State) (w : Fin 16) (f : Counters → Counters)
@[simp] theorem State.count_hold : (s.count w f).hold = s.hold := rfl
@[simp] theorem State.count_ig : (s.count w f).ig = s.ig := rfl
@[simp] theorem State.count_wt : (s.count w f).wt =
    s.wt.set w.val { s.win w with counters := f (s.win w).counters } := rfl
@[simp] theorem State.count_ae : (s.count w f).ae = s.ae := rfl
@[simp] theorem State.count_rf : (s.count w f).rf = s.rf := rfl
@[simp] theorem State.count_lm : (s.count w f).lm = s.lm := rfl
@[simp] theorem State.count_ct : (s.count w f).ct = s.ct := rfl
@[simp] theorem State.count_eg : (s.count w f).eg = s.eg := rfl
@[simp] theorem State.count_pa : (s.count w f).pa = s.pa := rfl
@[simp] theorem State.count_evq : (s.count w f).evq = s.evq := rfl
@[simp] theorem State.count_mp : (s.count w f).mp = s.mp := rfl
@[simp] theorem State.count_pins : (s.count w f).pins = s.pins := rfl
@[simp] theorem State.count_mcsLow : (s.count w f).mcsLow = s.mcsLow := rfl
@[simp] theorem State.count_freeIdx : (s.count w f).freeIdx = s.freeIdx := rfl
@[simp] theorem State.count_pending : (s.count w f).pending = s.pending := rfl
end

section
variable (s : State) (w : Fin 16) (n : Nat)
@[simp] theorem State.drop_hold : (s.drop w n).hold = s.hold := rfl
@[simp] theorem State.drop_ig : (s.drop w n).ig = s.ig := rfl
@[simp] theorem State.drop_ae : (s.drop w n).ae = s.ae := rfl
@[simp] theorem State.drop_rf : (s.drop w n).rf = s.rf := rfl
@[simp] theorem State.drop_lm : (s.drop w n).lm = s.lm := rfl
@[simp] theorem State.drop_ct : (s.drop w n).ct = s.ct := rfl
@[simp] theorem State.drop_eg : (s.drop w n).eg = s.eg := rfl
@[simp] theorem State.drop_pa : (s.drop w n).pa = s.pa := rfl
@[simp] theorem State.drop_evq : (s.drop w n).evq = s.evq := rfl
@[simp] theorem State.drop_mp : (s.drop w n).mp = s.mp := rfl
@[simp] theorem State.drop_pins : (s.drop w n).pins = s.pins := rfl
@[simp] theorem State.drop_mcsLow : (s.drop w n).mcsLow = s.mcsLow := rfl
@[simp] theorem State.drop_freeIdx : (s.drop w n).freeIdx = s.freeIdx := rfl
@[simp] theorem State.drop_pending : (s.drop w n).pending = s.pending := rfl
end

section
variable (s : State) (i : Fin 64) (c : Context)
@[simp] theorem State.setCtx_hold : (s.setCtx i c).hold = s.hold := rfl
@[simp] theorem State.setCtx_ig : (s.setCtx i c).ig = s.ig := rfl
@[simp] theorem State.setCtx_wt : (s.setCtx i c).wt = s.wt := rfl
@[simp] theorem State.setCtx_ae : (s.setCtx i c).ae = { s.ae with pool := s.ae.pool.set i.val c } := rfl
@[simp] theorem State.setCtx_rf : (s.setCtx i c).rf = s.rf := rfl
@[simp] theorem State.setCtx_lm : (s.setCtx i c).lm = s.lm := rfl
@[simp] theorem State.setCtx_ct : (s.setCtx i c).ct = s.ct := rfl
@[simp] theorem State.setCtx_eg : (s.setCtx i c).eg = s.eg := rfl
@[simp] theorem State.setCtx_pa : (s.setCtx i c).pa = s.pa := rfl
@[simp] theorem State.setCtx_evq : (s.setCtx i c).evq = s.evq := rfl
@[simp] theorem State.setCtx_mp : (s.setCtx i c).mp = s.mp := rfl
@[simp] theorem State.setCtx_pins : (s.setCtx i c).pins = s.pins := rfl
@[simp] theorem State.setCtx_mcsLow : (s.setCtx i c).mcsLow = s.mcsLow := rfl
@[simp] theorem State.setCtx_freeIdx : (s.setCtx i c).freeIdx = s.freeIdx := rfl
@[simp] theorem State.setCtx_pending : (s.setCtx i c).pending = s.pending := rfl
end

section
variable (s : State) (l : List (Fin 64))
@[simp] theorem State.setCommitList_hold : (s.setCommitList l).hold = s.hold := rfl
@[simp] theorem State.setCommitList_ig : (s.setCommitList l).ig = s.ig := rfl
@[simp] theorem State.setCommitList_wt : (s.setCommitList l).wt = s.wt := rfl
@[simp] theorem State.setCommitList_ae : (s.setCommitList l).ae = { s.ae with commitList := l } := rfl
@[simp] theorem State.setCommitList_rf : (s.setCommitList l).rf = s.rf := rfl
@[simp] theorem State.setCommitList_lm : (s.setCommitList l).lm = s.lm := rfl
@[simp] theorem State.setCommitList_ct : (s.setCommitList l).ct = s.ct := rfl
@[simp] theorem State.setCommitList_eg : (s.setCommitList l).eg = s.eg := rfl
@[simp] theorem State.setCommitList_pa : (s.setCommitList l).pa = s.pa := rfl
@[simp] theorem State.setCommitList_evq : (s.setCommitList l).evq = s.evq := rfl
@[simp] theorem State.setCommitList_mp : (s.setCommitList l).mp = s.mp := rfl
@[simp] theorem State.setCommitList_pins : (s.setCommitList l).pins = s.pins := rfl
@[simp] theorem State.setCommitList_mcsLow : (s.setCommitList l).mcsLow = s.mcsLow := rfl
@[simp] theorem State.setCommitList_freeIdx : (s.setCommitList l).freeIdx = s.freeIdx := rfl
@[simp] theorem State.setCommitList_pending : (s.setCommitList l).pending = s.pending := rfl
end

section
variable (s : State) (t : Option Timer)
@[simp] theorem State.setHoldTimer_hold : (s.setHoldTimer t).hold = s.hold := rfl
@[simp] theorem State.setHoldTimer_ig : (s.setHoldTimer t).ig = s.ig := rfl
@[simp] theorem State.setHoldTimer_wt : (s.setHoldTimer t).wt = s.wt := rfl
@[simp] theorem State.setHoldTimer_ae : (s.setHoldTimer t).ae = { s.ae with holdTimer := t } := rfl
@[simp] theorem State.setHoldTimer_rf : (s.setHoldTimer t).rf = s.rf := rfl
@[simp] theorem State.setHoldTimer_lm : (s.setHoldTimer t).lm = s.lm := rfl
@[simp] theorem State.setHoldTimer_ct : (s.setHoldTimer t).ct = s.ct := rfl
@[simp] theorem State.setHoldTimer_eg : (s.setHoldTimer t).eg = s.eg := rfl
@[simp] theorem State.setHoldTimer_pa : (s.setHoldTimer t).pa = s.pa := rfl
@[simp] theorem State.setHoldTimer_evq : (s.setHoldTimer t).evq = s.evq := rfl
@[simp] theorem State.setHoldTimer_mp : (s.setHoldTimer t).mp = s.mp := rfl
@[simp] theorem State.setHoldTimer_pins : (s.setHoldTimer t).pins = s.pins := rfl
@[simp] theorem State.setHoldTimer_mcsLow : (s.setHoldTimer t).mcsLow = s.mcsLow := rfl
@[simp] theorem State.setHoldTimer_freeIdx : (s.setHoldTimer t).freeIdx = s.freeIdx := rfl
@[simp] theorem State.setHoldTimer_pending : (s.setHoldTimer t).pending = s.pending := rfl
end

section
variable (s : State) (w : Fin 16) (x : FlushCounts)
@[simp] theorem State.setFlush_hold : (s.setFlush w x).hold = s.hold := rfl
@[simp] theorem State.setFlush_ig : (s.setFlush w x).ig = s.ig := rfl
@[simp] theorem State.setFlush_wt : (s.setFlush w x).wt = s.wt := rfl
@[simp] theorem State.setFlush_ae : (s.setFlush w x).ae = { s.ae with flush := s.ae.flush.set w.val x } := rfl
@[simp] theorem State.setFlush_rf : (s.setFlush w x).rf = s.rf := rfl
@[simp] theorem State.setFlush_lm : (s.setFlush w x).lm = s.lm := rfl
@[simp] theorem State.setFlush_ct : (s.setFlush w x).ct = s.ct := rfl
@[simp] theorem State.setFlush_eg : (s.setFlush w x).eg = s.eg := rfl
@[simp] theorem State.setFlush_pa : (s.setFlush w x).pa = s.pa := rfl
@[simp] theorem State.setFlush_evq : (s.setFlush w x).evq = s.evq := rfl
@[simp] theorem State.setFlush_mp : (s.setFlush w x).mp = s.mp := rfl
@[simp] theorem State.setFlush_pins : (s.setFlush w x).pins = s.pins := rfl
@[simp] theorem State.setFlush_mcsLow : (s.setFlush w x).mcsLow = s.mcsLow := rfl
@[simp] theorem State.setFlush_freeIdx : (s.setFlush w x).freeIdx = s.freeIdx := rfl
@[simp] theorem State.setFlush_pending : (s.setFlush w x).pending = s.pending := rfl
end

section
variable (s : State) (i : Nat) (x : SlotStatus)
@[simp] theorem State.setSlot_hold : (s.setSlot i x).hold = s.hold := rfl
@[simp] theorem State.setSlot_ig : (s.setSlot i x).ig = s.ig := rfl
@[simp] theorem State.setSlot_wt : (s.setSlot i x).wt = s.wt := rfl
@[simp] theorem State.setSlot_ae : (s.setSlot i x).ae = s.ae := rfl
@[simp] theorem State.setSlot_rf : (s.setSlot i x).rf = s.rf := rfl
@[simp] theorem State.setSlot_lm : (s.setSlot i x).lm = s.lm := rfl
@[simp] theorem State.setSlot_ct : (s.setSlot i x).ct = s.ct.setIfInBounds i x := rfl
@[simp] theorem State.setSlot_eg : (s.setSlot i x).eg = s.eg := rfl
@[simp] theorem State.setSlot_pa : (s.setSlot i x).pa = s.pa := rfl
@[simp] theorem State.setSlot_evq : (s.setSlot i x).evq = s.evq := rfl
@[simp] theorem State.setSlot_mp : (s.setSlot i x).mp = s.mp := rfl
@[simp] theorem State.setSlot_pins : (s.setSlot i x).pins = s.pins := rfl
@[simp] theorem State.setSlot_mcsLow : (s.setSlot i x).mcsLow = s.mcsLow := rfl
@[simp] theorem State.setSlot_freeIdx : (s.setSlot i x).freeIdx = s.freeIdx := rfl
@[simp] theorem State.setSlot_pending : (s.setSlot i x).pending = s.pending := rfl
end

section
variable (s : State) (p : Nat → Bool)
@[simp] theorem State.resetSlots_hold : (s.resetSlots p).hold = s.hold := rfl
@[simp] theorem State.resetSlots_ig : (s.resetSlots p).ig = s.ig := rfl
@[simp] theorem State.resetSlots_wt : (s.resetSlots p).wt = s.wt := rfl
@[simp] theorem State.resetSlots_ae : (s.resetSlots p).ae = s.ae := rfl
@[simp] theorem State.resetSlots_rf : (s.resetSlots p).rf = s.rf := rfl
@[simp] theorem State.resetSlots_lm : (s.resetSlots p).lm = s.lm := rfl
@[simp] theorem State.resetSlots_ct : (s.resetSlots p).ct =
    mapIdxV (fun i x => if p i then SlotStatus.fresh else x) s.ct := rfl
@[simp] theorem State.resetSlots_eg : (s.resetSlots p).eg =
    { s.eg with queue := s.eg.queue.map (EgressEntry.staleWhere p) } := rfl
@[simp] theorem State.resetSlots_pa : (s.resetSlots p).pa = s.pa := rfl
@[simp] theorem State.resetSlots_evq : (s.resetSlots p).evq = s.evq := rfl
@[simp] theorem State.resetSlots_mp : (s.resetSlots p).mp = s.mp := rfl
@[simp] theorem State.resetSlots_pins : (s.resetSlots p).pins = s.pins := rfl
@[simp] theorem State.resetSlots_mcsLow : (s.resetSlots p).mcsLow = s.mcsLow := rfl
@[simp] theorem State.resetSlots_freeIdx : (s.resetSlots p).freeIdx = s.freeIdx := rfl
@[simp] theorem State.resetSlots_pending : (s.resetSlots p).pending = s.pending := rfl
end

section
variable (s : State) (m : Fin 4) (x : Monitor)
@[simp] theorem State.setMon_hold : (s.setMon m x).hold = s.hold := rfl
@[simp] theorem State.setMon_ig : (s.setMon m x).ig = s.ig := rfl
@[simp] theorem State.setMon_wt : (s.setMon m x).wt = s.wt := rfl
@[simp] theorem State.setMon_ae : (s.setMon m x).ae = s.ae := rfl
@[simp] theorem State.setMon_rf : (s.setMon m x).rf = s.rf := rfl
@[simp] theorem State.setMon_lm : (s.setMon m x).lm = s.lm.set m.val x := rfl
@[simp] theorem State.setMon_ct : (s.setMon m x).ct = s.ct := rfl
@[simp] theorem State.setMon_eg : (s.setMon m x).eg = s.eg := rfl
@[simp] theorem State.setMon_pa : (s.setMon m x).pa = s.pa := rfl
@[simp] theorem State.setMon_evq : (s.setMon m x).evq = s.evq := rfl
@[simp] theorem State.setMon_mp : (s.setMon m x).mp = s.mp := rfl
@[simp] theorem State.setMon_pins : (s.setMon m x).pins = s.pins := rfl
@[simp] theorem State.setMon_mcsLow : (s.setMon m x).mcsLow = s.mcsLow := rfl
@[simp] theorem State.setMon_freeIdx : (s.setMon m x).freeIdx = s.freeIdx := rfl
@[simp] theorem State.setMon_pending : (s.setMon m x).pending = s.pending := rfl
end

section
variable (s : State) (link : Nat) (status : LinkStatus) (data : List Byte)
@[simp] theorem State.rolReady_hold : (s.rolReady link status data).hold = s.hold := rfl
@[simp] theorem State.rolReady_ig : (s.rolReady link status data).ig =
    { s.ig with rol := s.ig.rol.map (fun e => e.makeReady link status data) } := rfl
@[simp] theorem State.rolReady_wt : (s.rolReady link status data).wt = s.wt := rfl
@[simp] theorem State.rolReady_ae : (s.rolReady link status data).ae = s.ae := rfl
@[simp] theorem State.rolReady_rf : (s.rolReady link status data).rf = s.rf := rfl
@[simp] theorem State.rolReady_lm : (s.rolReady link status data).lm = s.lm := rfl
@[simp] theorem State.rolReady_ct : (s.rolReady link status data).ct = s.ct := rfl
@[simp] theorem State.rolReady_eg : (s.rolReady link status data).eg = s.eg := rfl
@[simp] theorem State.rolReady_pa : (s.rolReady link status data).pa = s.pa := rfl
@[simp] theorem State.rolReady_evq : (s.rolReady link status data).evq = s.evq := rfl
@[simp] theorem State.rolReady_mp : (s.rolReady link status data).mp = s.mp := rfl
@[simp] theorem State.rolReady_pins : (s.rolReady link status data).pins = s.pins := rfl
@[simp] theorem State.rolReady_mcsLow : (s.rolReady link status data).mcsLow = s.mcsLow := rfl
@[simp] theorem State.rolReady_freeIdx : (s.rolReady link status data).freeIdx = s.freeIdx := rfl
@[simp] theorem State.rolReady_pending : (s.rolReady link status data).pending = s.pending := rfl
end

section
variable (s : State) (x : Intake)
@[simp] theorem State.setIntake_hold : (s.setIntake x).hold = s.hold := rfl
@[simp] theorem State.setIntake_ig : (s.setIntake x).ig = { s.ig with intake := x } := rfl
@[simp] theorem State.setIntake_wt : (s.setIntake x).wt = s.wt := rfl
@[simp] theorem State.setIntake_ae : (s.setIntake x).ae = s.ae := rfl
@[simp] theorem State.setIntake_rf : (s.setIntake x).rf = s.rf := rfl
@[simp] theorem State.setIntake_lm : (s.setIntake x).lm = s.lm := rfl
@[simp] theorem State.setIntake_ct : (s.setIntake x).ct = s.ct := rfl
@[simp] theorem State.setIntake_eg : (s.setIntake x).eg = s.eg := rfl
@[simp] theorem State.setIntake_pa : (s.setIntake x).pa = s.pa := rfl
@[simp] theorem State.setIntake_evq : (s.setIntake x).evq = s.evq := rfl
@[simp] theorem State.setIntake_mp : (s.setIntake x).mp = s.mp := rfl
@[simp] theorem State.setIntake_pins : (s.setIntake x).pins = s.pins := rfl
@[simp] theorem State.setIntake_mcsLow : (s.setIntake x).mcsLow = s.mcsLow := rfl
@[simp] theorem State.setIntake_freeIdx : (s.setIntake x).freeIdx = s.freeIdx := rfl
@[simp] theorem State.setIntake_pending : (s.setIntake x).pending = s.pending := rfl
end

section
variable (s : State) (q : List EgressEntry)
@[simp] theorem State.setQueue_hold : (s.setQueue q).hold = s.hold := rfl
@[simp] theorem State.setQueue_ig : (s.setQueue q).ig = s.ig := rfl
@[simp] theorem State.setQueue_wt : (s.setQueue q).wt = s.wt := rfl
@[simp] theorem State.setQueue_ae : (s.setQueue q).ae = s.ae := rfl
@[simp] theorem State.setQueue_rf : (s.setQueue q).rf = s.rf := rfl
@[simp] theorem State.setQueue_lm : (s.setQueue q).lm = s.lm := rfl
@[simp] theorem State.setQueue_ct : (s.setQueue q).ct = s.ct := rfl
@[simp] theorem State.setQueue_eg : (s.setQueue q).eg = { s.eg with queue := q } := rfl
@[simp] theorem State.setQueue_pa : (s.setQueue q).pa = s.pa := rfl
@[simp] theorem State.setQueue_evq : (s.setQueue q).evq = s.evq := rfl
@[simp] theorem State.setQueue_mp : (s.setQueue q).mp = s.mp := rfl
@[simp] theorem State.setQueue_pins : (s.setQueue q).pins = s.pins := rfl
@[simp] theorem State.setQueue_mcsLow : (s.setQueue q).mcsLow = s.mcsLow := rfl
@[simp] theorem State.setQueue_freeIdx : (s.setQueue q).freeIdx = s.freeIdx := rfl
@[simp] theorem State.setQueue_pending : (s.setQueue q).pending = s.pending := rfl
end

section
variable (s : State) (n : Nat)
@[simp] theorem State.setAbandoned_hold : (s.setAbandoned n).hold = s.hold := rfl
@[simp] theorem State.setAbandoned_ig : (s.setAbandoned n).ig = s.ig := rfl
@[simp] theorem State.setAbandoned_wt : (s.setAbandoned n).wt = s.wt := rfl
@[simp] theorem State.setAbandoned_ae : (s.setAbandoned n).ae = s.ae := rfl
@[simp] theorem State.setAbandoned_rf : (s.setAbandoned n).rf = s.rf := rfl
@[simp] theorem State.setAbandoned_lm : (s.setAbandoned n).lm = s.lm := rfl
@[simp] theorem State.setAbandoned_ct : (s.setAbandoned n).ct = s.ct := rfl
@[simp] theorem State.setAbandoned_eg : (s.setAbandoned n).eg = { s.eg with abandoned := n } := rfl
@[simp] theorem State.setAbandoned_pa : (s.setAbandoned n).pa = s.pa := rfl
@[simp] theorem State.setAbandoned_evq : (s.setAbandoned n).evq = s.evq := rfl
@[simp] theorem State.setAbandoned_mp : (s.setAbandoned n).mp = s.mp := rfl
@[simp] theorem State.setAbandoned_pins : (s.setAbandoned n).pins = s.pins := rfl
@[simp] theorem State.setAbandoned_mcsLow : (s.setAbandoned n).mcsLow = s.mcsLow := rfl
@[simp] theorem State.setAbandoned_freeIdx : (s.setAbandoned n).freeIdx = s.freeIdx := rfl
@[simp] theorem State.setAbandoned_pending : (s.setAbandoned n).pending = s.pending := rfl
end

section
variable (s : State) (t : Option (BitVec 16))
@[simp] theorem State.setRespTimer_hold : (s.setRespTimer t).hold = s.hold := rfl
@[simp] theorem State.setRespTimer_ig : (s.setRespTimer t).ig = s.ig := rfl
@[simp] theorem State.setRespTimer_wt : (s.setRespTimer t).wt = s.wt := rfl
@[simp] theorem State.setRespTimer_ae : (s.setRespTimer t).ae = s.ae := rfl
@[simp] theorem State.setRespTimer_rf : (s.setRespTimer t).rf = s.rf := rfl
@[simp] theorem State.setRespTimer_lm : (s.setRespTimer t).lm = s.lm := rfl
@[simp] theorem State.setRespTimer_ct : (s.setRespTimer t).ct = s.ct := rfl
@[simp] theorem State.setRespTimer_eg : (s.setRespTimer t).eg = { s.eg with timer := t } := rfl
@[simp] theorem State.setRespTimer_pa : (s.setRespTimer t).pa = s.pa := rfl
@[simp] theorem State.setRespTimer_evq : (s.setRespTimer t).evq = s.evq := rfl
@[simp] theorem State.setRespTimer_mp : (s.setRespTimer t).mp = s.mp := rfl
@[simp] theorem State.setRespTimer_pins : (s.setRespTimer t).pins = s.pins := rfl
@[simp] theorem State.setRespTimer_mcsLow : (s.setRespTimer t).mcsLow = s.mcsLow := rfl
@[simp] theorem State.setRespTimer_freeIdx : (s.setRespTimer t).freeIdx = s.freeIdx := rfl
@[simp] theorem State.setRespTimer_pending : (s.setRespTimer t).pending = s.pending := rfl
end

section
variable (s : State) (l : List Program)
@[simp] theorem State.setStage_hold : (s.setStage l).hold = s.hold := rfl
@[simp] theorem State.setStage_ig : (s.setStage l).ig = s.ig := rfl
@[simp] theorem State.setStage_wt : (s.setStage l).wt = s.wt := rfl
@[simp] theorem State.setStage_ae : (s.setStage l).ae = s.ae := rfl
@[simp] theorem State.setStage_rf : (s.setStage l).rf = s.rf := rfl
@[simp] theorem State.setStage_lm : (s.setStage l).lm = s.lm := rfl
@[simp] theorem State.setStage_ct : (s.setStage l).ct = s.ct := rfl
@[simp] theorem State.setStage_eg : (s.setStage l).eg = s.eg := rfl
@[simp] theorem State.setStage_pa : (s.setStage l).pa = { s.pa with stage := l } := rfl
@[simp] theorem State.setStage_evq : (s.setStage l).evq = s.evq := rfl
@[simp] theorem State.setStage_mp : (s.setStage l).mp = s.mp := rfl
@[simp] theorem State.setStage_pins : (s.setStage l).pins = s.pins := rfl
@[simp] theorem State.setStage_mcsLow : (s.setStage l).mcsLow = s.mcsLow := rfl
@[simp] theorem State.setStage_freeIdx : (s.setStage l).freeIdx = s.freeIdx := rfl
@[simp] theorem State.setStage_pending : (s.setStage l).pending = s.pending := rfl
end

section
variable (s : State) (t : Option Timer)
@[simp] theorem State.setDrainTimer_hold : (s.setDrainTimer t).hold = s.hold := rfl
@[simp] theorem State.setDrainTimer_ig : (s.setDrainTimer t).ig = s.ig := rfl
@[simp] theorem State.setDrainTimer_wt : (s.setDrainTimer t).wt = s.wt := rfl
@[simp] theorem State.setDrainTimer_ae : (s.setDrainTimer t).ae = s.ae := rfl
@[simp] theorem State.setDrainTimer_rf : (s.setDrainTimer t).rf = s.rf := rfl
@[simp] theorem State.setDrainTimer_lm : (s.setDrainTimer t).lm = s.lm := rfl
@[simp] theorem State.setDrainTimer_ct : (s.setDrainTimer t).ct = s.ct := rfl
@[simp] theorem State.setDrainTimer_eg : (s.setDrainTimer t).eg = s.eg := rfl
@[simp] theorem State.setDrainTimer_pa : (s.setDrainTimer t).pa = { s.pa with drainTimer := t } := rfl
@[simp] theorem State.setDrainTimer_evq : (s.setDrainTimer t).evq = s.evq := rfl
@[simp] theorem State.setDrainTimer_mp : (s.setDrainTimer t).mp = s.mp := rfl
@[simp] theorem State.setDrainTimer_pins : (s.setDrainTimer t).pins = s.pins := rfl
@[simp] theorem State.setDrainTimer_mcsLow : (s.setDrainTimer t).mcsLow = s.mcsLow := rfl
@[simp] theorem State.setDrainTimer_freeIdx : (s.setDrainTimer t).freeIdx = s.freeIdx := rfl
@[simp] theorem State.setDrainTimer_pending : (s.setDrainTimer t).pending = s.pending := rfl
end

section
variable (s : State) (p : PortState)
@[simp] theorem State.setPort_hold : (s.setPort p).hold = s.hold := rfl
@[simp] theorem State.setPort_ig : (s.setPort p).ig = s.ig := rfl
@[simp] theorem State.setPort_wt : (s.setPort p).wt = s.wt := rfl
@[simp] theorem State.setPort_ae : (s.setPort p).ae = s.ae := rfl
@[simp] theorem State.setPort_rf : (s.setPort p).rf = s.rf := rfl
@[simp] theorem State.setPort_lm : (s.setPort p).lm = s.lm := rfl
@[simp] theorem State.setPort_ct : (s.setPort p).ct = s.ct := rfl
@[simp] theorem State.setPort_eg : (s.setPort p).eg = s.eg := rfl
@[simp] theorem State.setPort_pa : (s.setPort p).pa = s.pa := rfl
@[simp] theorem State.setPort_evq : (s.setPort p).evq = s.evq := rfl
@[simp] theorem State.setPort_mp : (s.setPort p).mp = { s.mp with port := p } := rfl
@[simp] theorem State.setPort_pins : (s.setPort p).pins = s.pins := rfl
@[simp] theorem State.setPort_mcsLow : (s.setPort p).mcsLow = s.mcsLow := rfl
@[simp] theorem State.setPort_freeIdx : (s.setPort p).freeIdx = s.freeIdx := rfl
@[simp] theorem State.setPort_pending : (s.setPort p).pending = s.pending := rfl
end

section
variable (s : State) (w : Fin 16)
@[simp] theorem State.applyMonitors_hold : (s.applyMonitors w).hold = s.hold := rfl
@[simp] theorem State.applyMonitors_ig : (s.applyMonitors w).ig = s.ig := rfl
@[simp] theorem State.applyMonitors_wt : (s.applyMonitors w).wt = s.wt := rfl
@[simp] theorem State.applyMonitors_ae : (s.applyMonitors w).ae = s.ae := rfl
@[simp] theorem State.applyMonitors_rf : (s.applyMonitors w).rf = s.rf := rfl
@[simp] theorem State.applyMonitors_ct : (s.applyMonitors w).ct = s.ct := rfl
@[simp] theorem State.applyMonitors_eg : (s.applyMonitors w).eg = s.eg := rfl
@[simp] theorem State.applyMonitors_pa : (s.applyMonitors w).pa = s.pa := rfl
@[simp] theorem State.applyMonitors_evq : (s.applyMonitors w).evq = s.evq := rfl
@[simp] theorem State.applyMonitors_mp : (s.applyMonitors w).mp = s.mp := rfl
@[simp] theorem State.applyMonitors_pins : (s.applyMonitors w).pins = s.pins := rfl
@[simp] theorem State.applyMonitors_mcsLow : (s.applyMonitors w).mcsLow = s.mcsLow := rfl
@[simp] theorem State.applyMonitors_freeIdx : (s.applyMonitors w).freeIdx = s.freeIdx := rfl
@[simp] theorem State.applyMonitors_pending : (s.applyMonitors w).pending = s.pending := rfl
end

/-! ### What one element reads after an update -/

theorem State.win_setWin (s : State) (w v : Fin 16) (x : Window) :
    (s.setWin w x).win v = if w = v then x else s.win v := by
  simp only [State.win, State.setWin_wt, Vector.getElem_set, Fin.ext_iff]

theorem State.ctx_setCtx (s : State) (i j : Fin 64) (c : Context) :
    (s.setCtx i c).ctx j = if i = j then c else s.ctx j := by
  simp only [State.ctx, State.setCtx_ae, Vector.getElem_set, Fin.ext_iff]

theorem State.mon_setMon (s : State) (m k : Fin 4) (x : Monitor) :
    (s.setMon m x).mon k = if m = k then x else s.mon k := by
  simp only [State.mon, State.setMon_lm, Vector.getElem_set, Fin.ext_iff]

theorem State.flushOf_setFlush (s : State) (w v : Fin 16) (x : FlushCounts) :
    (s.setFlush w x).flushOf v = if w = v then x else s.flushOf v := by
  simp only [State.flushOf, State.setFlush_ae, Vector.getElem_set, Fin.ext_iff]

theorem State.slotAt_setSlot (s : State) (i j : Nat) (x : SlotStatus) :
    (s.setSlot i x).slotAt j = if i = j ∧ i < 1024 then x else s.slotAt j := by
  simp only [State.slotAt, State.setSlot_ct, Vector.getElem?_setIfInBounds]
  by_cases h : i = j
  · subst h
    by_cases h2 : i < 1024
    · simp [h2]
    · simp [h2]
  · simp [h]

/-- What a window shows but its counters: its fields and its state. -/
def State.shape (s : State) (v : Fin 16) : Fields × WState := ((s.win v).fields, (s.win v).state)

theorem State.shape_of_wt (s t : State) (h : t.wt = s.wt) : t.shape = s.shape := by
  funext v; simp [State.shape, State.win, h]

@[simp] theorem State.record_win (s : State) (k : EventKind) (w : Option (Fin 16)) (slot : Option Nat) (d : BitVec 32) (n : Nat) :
    (s.record k w slot d n).win = s.win := rfl
@[simp] theorem State.record_ctx (s : State) (k : EventKind) (w : Option (Fin 16)) (slot : Option Nat) (d : BitVec 32) (n : Nat) :
    (s.record k w slot d n).ctx = s.ctx := rfl
@[simp] theorem State.record_mon (s : State) (k : EventKind) (w : Option (Fin 16)) (slot : Option Nat) (d : BitVec 32) (n : Nat) :
    (s.record k w slot d n).mon = s.mon := rfl
@[simp] theorem State.record_slotAt (s : State) (k : EventKind) (w : Option (Fin 16)) (slot : Option Nat) (d : BitVec 32) (n : Nat) :
    (s.record k w slot d n).slotAt = s.slotAt := rfl
@[simp] theorem State.record_flushOf (s : State) (k : EventKind) (w : Option (Fin 16)) (slot : Option Nat) (d : BitVec 32) (n : Nat) :
    (s.record k w slot d n).flushOf = s.flushOf := rfl
@[simp] theorem State.record_shape (s : State) (k : EventKind) (w : Option (Fin 16)) (slot : Option Nat) (d : BitVec 32) (n : Nat) :
    (s.record k w slot d n).shape = s.shape := rfl
@[simp] theorem State.setWin_ctx (s : State) (w : Fin 16) (x : Window) : (s.setWin w x).ctx = s.ctx := rfl
@[simp] theorem State.setWin_mon (s : State) (w : Fin 16) (x : Window) : (s.setWin w x).mon = s.mon := rfl
@[simp] theorem State.setWin_slotAt (s : State) (w : Fin 16) (x : Window) : (s.setWin w x).slotAt = s.slotAt := rfl
@[simp] theorem State.setWin_flushOf (s : State) (w : Fin 16) (x : Window) : (s.setWin w x).flushOf = s.flushOf := rfl
@[simp] theorem State.setWinState_ctx (s : State) (w : Fin 16) (x : WState) : (s.setWinState w x).ctx = s.ctx := rfl
@[simp] theorem State.setWinState_mon (s : State) (w : Fin 16) (x : WState) : (s.setWinState w x).mon = s.mon := rfl
@[simp] theorem State.setWinState_slotAt (s : State) (w : Fin 16) (x : WState) :
    (s.setWinState w x).slotAt = s.slotAt := rfl
@[simp] theorem State.setWinState_flushOf (s : State) (w : Fin 16) (x : WState) :
    (s.setWinState w x).flushOf = s.flushOf := rfl
@[simp] theorem State.count_ctx (s : State) (w : Fin 16) (f : Counters → Counters) : (s.count w f).ctx = s.ctx := rfl
@[simp] theorem State.count_mon (s : State) (w : Fin 16) (f : Counters → Counters) : (s.count w f).mon = s.mon := rfl
@[simp] theorem State.count_slotAt (s : State) (w : Fin 16) (f : Counters → Counters) :
    (s.count w f).slotAt = s.slotAt := rfl
@[simp] theorem State.count_flushOf (s : State) (w : Fin 16) (f : Counters → Counters) :
    (s.count w f).flushOf = s.flushOf := rfl
@[simp] theorem State.drop_ctx (s : State) (w : Fin 16) (n : Nat) : (s.drop w n).ctx = s.ctx := rfl
@[simp] theorem State.drop_mon (s : State) (w : Fin 16) (n : Nat) : (s.drop w n).mon = s.mon := rfl
@[simp] theorem State.drop_slotAt (s : State) (w : Fin 16) (n : Nat) : (s.drop w n).slotAt = s.slotAt := rfl
@[simp] theorem State.drop_flushOf (s : State) (w : Fin 16) (n : Nat) : (s.drop w n).flushOf = s.flushOf := rfl
@[simp] theorem State.setCtx_win (s : State) (i : Fin 64) (c : Context) : (s.setCtx i c).win = s.win := rfl
@[simp] theorem State.setCtx_mon (s : State) (i : Fin 64) (c : Context) : (s.setCtx i c).mon = s.mon := rfl
@[simp] theorem State.setCtx_slotAt (s : State) (i : Fin 64) (c : Context) : (s.setCtx i c).slotAt = s.slotAt := rfl
@[simp] theorem State.setCtx_flushOf (s : State) (i : Fin 64) (c : Context) :
    (s.setCtx i c).flushOf = s.flushOf := rfl
@[simp] theorem State.setCtx_shape (s : State) (i : Fin 64) (c : Context) : (s.setCtx i c).shape = s.shape := rfl
@[simp] theorem State.setCommitList_win (s : State) (l : List (Fin 64)) : (s.setCommitList l).win = s.win := rfl
@[simp] theorem State.setCommitList_ctx (s : State) (l : List (Fin 64)) : (s.setCommitList l).ctx = s.ctx := rfl
@[simp] theorem State.setCommitList_mon (s : State) (l : List (Fin 64)) : (s.setCommitList l).mon = s.mon := rfl
@[simp] theorem State.setCommitList_slotAt (s : State) (l : List (Fin 64)) :
    (s.setCommitList l).slotAt = s.slotAt := rfl
@[simp] theorem State.setCommitList_flushOf (s : State) (l : List (Fin 64)) :
    (s.setCommitList l).flushOf = s.flushOf := rfl
@[simp] theorem State.setCommitList_shape (s : State) (l : List (Fin 64)) : (s.setCommitList l).shape = s.shape := rfl
@[simp] theorem State.setHoldTimer_win (s : State) (t : Option Timer) : (s.setHoldTimer t).win = s.win := rfl
@[simp] theorem State.setHoldTimer_ctx (s : State) (t : Option Timer) : (s.setHoldTimer t).ctx = s.ctx := rfl
@[simp] theorem State.setHoldTimer_mon (s : State) (t : Option Timer) : (s.setHoldTimer t).mon = s.mon := rfl
@[simp] theorem State.setHoldTimer_slotAt (s : State) (t : Option Timer) : (s.setHoldTimer t).slotAt = s.slotAt := rfl
@[simp] theorem State.setHoldTimer_flushOf (s : State) (t : Option Timer) :
    (s.setHoldTimer t).flushOf = s.flushOf := rfl
@[simp] theorem State.setHoldTimer_shape (s : State) (t : Option Timer) : (s.setHoldTimer t).shape = s.shape := rfl
@[simp] theorem State.setFlush_win (s : State) (w : Fin 16) (x : FlushCounts) : (s.setFlush w x).win = s.win := rfl
@[simp] theorem State.setFlush_ctx (s : State) (w : Fin 16) (x : FlushCounts) : (s.setFlush w x).ctx = s.ctx := rfl
@[simp] theorem State.setFlush_mon (s : State) (w : Fin 16) (x : FlushCounts) : (s.setFlush w x).mon = s.mon := rfl
@[simp] theorem State.setFlush_slotAt (s : State) (w : Fin 16) (x : FlushCounts) :
    (s.setFlush w x).slotAt = s.slotAt := rfl
@[simp] theorem State.setFlush_shape (s : State) (w : Fin 16) (x : FlushCounts) :
    (s.setFlush w x).shape = s.shape := rfl
@[simp] theorem State.setSlot_win (s : State) (i : Nat) (x : SlotStatus) : (s.setSlot i x).win = s.win := rfl
@[simp] theorem State.setSlot_ctx (s : State) (i : Nat) (x : SlotStatus) : (s.setSlot i x).ctx = s.ctx := rfl
@[simp] theorem State.setSlot_mon (s : State) (i : Nat) (x : SlotStatus) : (s.setSlot i x).mon = s.mon := rfl
@[simp] theorem State.setSlot_flushOf (s : State) (i : Nat) (x : SlotStatus) :
    (s.setSlot i x).flushOf = s.flushOf := rfl
@[simp] theorem State.setSlot_shape (s : State) (i : Nat) (x : SlotStatus) : (s.setSlot i x).shape = s.shape := rfl
@[simp] theorem State.resetSlots_win (s : State) (p : Nat → Bool) : (s.resetSlots p).win = s.win := rfl
@[simp] theorem State.resetSlots_ctx (s : State) (p : Nat → Bool) : (s.resetSlots p).ctx = s.ctx := rfl
@[simp] theorem State.resetSlots_mon (s : State) (p : Nat → Bool) : (s.resetSlots p).mon = s.mon := rfl
@[simp] theorem State.resetSlots_flushOf (s : State) (p : Nat → Bool) : (s.resetSlots p).flushOf = s.flushOf := rfl
@[simp] theorem State.resetSlots_shape (s : State) (p : Nat → Bool) : (s.resetSlots p).shape = s.shape := rfl
@[simp] theorem State.setMon_win (s : State) (m : Fin 4) (x : Monitor) : (s.setMon m x).win = s.win := rfl
@[simp] theorem State.setMon_ctx (s : State) (m : Fin 4) (x : Monitor) : (s.setMon m x).ctx = s.ctx := rfl
@[simp] theorem State.setMon_slotAt (s : State) (m : Fin 4) (x : Monitor) : (s.setMon m x).slotAt = s.slotAt := rfl
@[simp] theorem State.setMon_flushOf (s : State) (m : Fin 4) (x : Monitor) : (s.setMon m x).flushOf = s.flushOf := rfl
@[simp] theorem State.setMon_shape (s : State) (m : Fin 4) (x : Monitor) : (s.setMon m x).shape = s.shape := rfl
@[simp] theorem State.rolReady_win (s : State) (link : Nat) (status : LinkStatus) (data : List Byte) :
    (s.rolReady link status data).win = s.win := rfl
@[simp] theorem State.rolReady_ctx (s : State) (link : Nat) (status : LinkStatus) (data : List Byte) :
    (s.rolReady link status data).ctx = s.ctx := rfl
@[simp] theorem State.rolReady_mon (s : State) (link : Nat) (status : LinkStatus) (data : List Byte) :
    (s.rolReady link status data).mon = s.mon := rfl
@[simp] theorem State.rolReady_slotAt (s : State) (link : Nat) (status : LinkStatus) (data : List Byte) :
    (s.rolReady link status data).slotAt = s.slotAt := rfl
@[simp] theorem State.rolReady_flushOf (s : State) (link : Nat) (status : LinkStatus) (data : List Byte) :
    (s.rolReady link status data).flushOf = s.flushOf := rfl
@[simp] theorem State.rolReady_shape (s : State) (link : Nat) (status : LinkStatus) (data : List Byte) :
    (s.rolReady link status data).shape = s.shape := rfl
@[simp] theorem State.setIntake_win (s : State) (x : Intake) : (s.setIntake x).win = s.win := rfl
@[simp] theorem State.setIntake_ctx (s : State) (x : Intake) : (s.setIntake x).ctx = s.ctx := rfl
@[simp] theorem State.setIntake_mon (s : State) (x : Intake) : (s.setIntake x).mon = s.mon := rfl
@[simp] theorem State.setIntake_slotAt (s : State) (x : Intake) : (s.setIntake x).slotAt = s.slotAt := rfl
@[simp] theorem State.setIntake_flushOf (s : State) (x : Intake) : (s.setIntake x).flushOf = s.flushOf := rfl
@[simp] theorem State.setIntake_shape (s : State) (x : Intake) : (s.setIntake x).shape = s.shape := rfl
@[simp] theorem State.setQueue_win (s : State) (q : List EgressEntry) : (s.setQueue q).win = s.win := rfl
@[simp] theorem State.setQueue_ctx (s : State) (q : List EgressEntry) : (s.setQueue q).ctx = s.ctx := rfl
@[simp] theorem State.setQueue_mon (s : State) (q : List EgressEntry) : (s.setQueue q).mon = s.mon := rfl
@[simp] theorem State.setQueue_slotAt (s : State) (q : List EgressEntry) : (s.setQueue q).slotAt = s.slotAt := rfl
@[simp] theorem State.setQueue_flushOf (s : State) (q : List EgressEntry) : (s.setQueue q).flushOf = s.flushOf := rfl
@[simp] theorem State.setQueue_shape (s : State) (q : List EgressEntry) : (s.setQueue q).shape = s.shape := rfl
@[simp] theorem State.setAbandoned_win (s : State) (n : Nat) : (s.setAbandoned n).win = s.win := rfl
@[simp] theorem State.setAbandoned_ctx (s : State) (n : Nat) : (s.setAbandoned n).ctx = s.ctx := rfl
@[simp] theorem State.setAbandoned_mon (s : State) (n : Nat) : (s.setAbandoned n).mon = s.mon := rfl
@[simp] theorem State.setAbandoned_slotAt (s : State) (n : Nat) : (s.setAbandoned n).slotAt = s.slotAt := rfl
@[simp] theorem State.setAbandoned_flushOf (s : State) (n : Nat) : (s.setAbandoned n).flushOf = s.flushOf := rfl
@[simp] theorem State.setAbandoned_shape (s : State) (n : Nat) : (s.setAbandoned n).shape = s.shape := rfl
@[simp] theorem State.setRespTimer_win (s : State) (t : Option (BitVec 16)) : (s.setRespTimer t).win = s.win := rfl
@[simp] theorem State.setRespTimer_ctx (s : State) (t : Option (BitVec 16)) : (s.setRespTimer t).ctx = s.ctx := rfl
@[simp] theorem State.setRespTimer_mon (s : State) (t : Option (BitVec 16)) : (s.setRespTimer t).mon = s.mon := rfl
@[simp] theorem State.setRespTimer_slotAt (s : State) (t : Option (BitVec 16)) :
    (s.setRespTimer t).slotAt = s.slotAt := rfl
@[simp] theorem State.setRespTimer_flushOf (s : State) (t : Option (BitVec 16)) :
    (s.setRespTimer t).flushOf = s.flushOf := rfl
@[simp] theorem State.setRespTimer_shape (s : State) (t : Option (BitVec 16)) :
    (s.setRespTimer t).shape = s.shape := rfl
@[simp] theorem State.setStage_win (s : State) (l : List Program) : (s.setStage l).win = s.win := rfl
@[simp] theorem State.setStage_ctx (s : State) (l : List Program) : (s.setStage l).ctx = s.ctx := rfl
@[simp] theorem State.setStage_mon (s : State) (l : List Program) : (s.setStage l).mon = s.mon := rfl
@[simp] theorem State.setStage_slotAt (s : State) (l : List Program) : (s.setStage l).slotAt = s.slotAt := rfl
@[simp] theorem State.setStage_flushOf (s : State) (l : List Program) : (s.setStage l).flushOf = s.flushOf := rfl
@[simp] theorem State.setStage_shape (s : State) (l : List Program) : (s.setStage l).shape = s.shape := rfl
@[simp] theorem State.setDrainTimer_win (s : State) (t : Option Timer) : (s.setDrainTimer t).win = s.win := rfl
@[simp] theorem State.setDrainTimer_ctx (s : State) (t : Option Timer) : (s.setDrainTimer t).ctx = s.ctx := rfl
@[simp] theorem State.setDrainTimer_mon (s : State) (t : Option Timer) : (s.setDrainTimer t).mon = s.mon := rfl
@[simp] theorem State.setDrainTimer_slotAt (s : State) (t : Option Timer) :
    (s.setDrainTimer t).slotAt = s.slotAt := rfl
@[simp] theorem State.setDrainTimer_flushOf (s : State) (t : Option Timer) :
    (s.setDrainTimer t).flushOf = s.flushOf := rfl
@[simp] theorem State.setDrainTimer_shape (s : State) (t : Option Timer) : (s.setDrainTimer t).shape = s.shape := rfl
@[simp] theorem State.setPort_win (s : State) (p : PortState) : (s.setPort p).win = s.win := rfl
@[simp] theorem State.setPort_ctx (s : State) (p : PortState) : (s.setPort p).ctx = s.ctx := rfl
@[simp] theorem State.setPort_mon (s : State) (p : PortState) : (s.setPort p).mon = s.mon := rfl
@[simp] theorem State.setPort_slotAt (s : State) (p : PortState) : (s.setPort p).slotAt = s.slotAt := rfl
@[simp] theorem State.setPort_flushOf (s : State) (p : PortState) : (s.setPort p).flushOf = s.flushOf := rfl
@[simp] theorem State.setPort_shape (s : State) (p : PortState) : (s.setPort p).shape = s.shape := rfl
@[simp] theorem State.applyMonitors_win (s : State) (w : Fin 16) : (s.applyMonitors w).win = s.win := rfl
@[simp] theorem State.applyMonitors_ctx (s : State) (w : Fin 16) : (s.applyMonitors w).ctx = s.ctx := rfl
@[simp] theorem State.applyMonitors_slotAt (s : State) (w : Fin 16) : (s.applyMonitors w).slotAt = s.slotAt := rfl
@[simp] theorem State.applyMonitors_flushOf (s : State) (w : Fin 16) : (s.applyMonitors w).flushOf = s.flushOf := rfl
@[simp] theorem State.applyMonitors_shape (s : State) (w : Fin 16) : (s.applyMonitors w).shape = s.shape := rfl

@[simp] theorem State.shape_count (s : State) (w : Fin 16) (f : Counters → Counters) : (s.count w f).shape = s.shape := by
  funext v
  simp only [State.shape, State.count, State.win_setWin]
  split <;> simp_all

@[simp] theorem State.shape_drop (s : State) (w : Fin 16) (n : Nat) : (s.drop w n).shape = s.shape :=
  State.shape_count s w _

/-! ### What is counted and looked up in the pool depends on the pool alone -/

section
variable {s t : State}
theorem State.freeCount_of_pool (h : t.ae.pool = s.ae.pool) : t.freeCount = s.freeCount := by simp [State.freeCount, h]
theorem State.openCount_of_pool (h : t.ae.pool = s.ae.pool) : t.openCount = s.openCount := by simp [State.openCount, h]
theorem State.committingCount_of_pool (h : t.ae.pool = s.ae.pool) : t.committingCount = s.committingCount := by
  simp [State.committingCount, h]
theorem State.openOf_of_pool (h : t.ae.pool = s.ae.pool) : t.openOf = s.openOf := by funext w; simp [State.openOf, h]
theorem State.holdsContexts_of_pool (h : t.ae.pool = s.ae.pool) : t.holdsContexts = s.holdsContexts := by
  funext w; simp [State.holdsContexts, h]
theorem State.ctx_of_pool (h : t.ae.pool = s.ae.pool) : t.ctx = s.ctx := by funext i; simp [State.ctx, h]
theorem State.lookup_of_pool (h : t.ae.pool = s.ae.pool) : t.lookup = s.lookup := by
  funext w i; simp [State.lookup, State.ctx_of_pool h]
theorem State.slotOf_of_pool (h : t.ae.pool = s.ae.pool) : t.slotOf = s.slotOf := by
  funext i; simp [State.slotOf, State.ctx_of_pool h]
theorem State.openInOrder_of_pool (h : t.ae.pool = s.ae.pool) : t.openInOrder = s.openInOrder := by
  funext w; simp only [State.openInOrder, State.slotOf_of_pool h, State.ctx_of_pool h]
end

end Sys2Proof.Machine
end

