-- ==== Sys2Proof/Laws/Frames.lean ====
section
/-! SUPPORT. One frame lemma per shared operation: everything it leaves as it was. `shape` is a window's fields and
state, all of it but the counters. -/

namespace Sys2Proof.Machine

@[simp] theorem Eval.fire_frame (e : Eval) (m : Fin 4) (w : Fin 16) (slot : Nat) :
    (e.fire m w slot).s.hold = e.s.hold ∧ (e.fire m w slot).s.ig = e.s.ig ∧ (e.fire m w slot).s.wt = e.s.wt ∧
    (e.fire m w slot).s.ae = e.s.ae ∧ (e.fire m w slot).s.rf = e.s.rf ∧ (e.fire m w slot).s.ct = e.s.ct ∧
    (e.fire m w slot).s.eg = e.s.eg ∧ (e.fire m w slot).s.pa = e.s.pa ∧ (e.fire m w slot).s.mp = e.s.mp ∧
    (e.fire m w slot).s.pins = e.s.pins ∧ (e.fire m w slot).s.mcsLow = e.s.mcsLow ∧
    (e.fire m w slot).s.freeIdx = e.s.freeIdx ∧
    (e.fire m w slot).s.pending = e.s.pending ∧ (e.fire m w slot).s.shape = e.s.shape := by
  simp [Eval.fire]

@[simp] theorem Eval.turn_frame (w : Fin 16) (slot : Nat) (e : Eval) (m : Fin 4) :
    (Eval.turn w slot e m).s.hold = e.s.hold ∧ (Eval.turn w slot e m).s.ig = e.s.ig ∧
    (Eval.turn w slot e m).s.wt = e.s.wt ∧
    (Eval.turn w slot e m).s.ae = e.s.ae ∧ (Eval.turn w slot e m).s.rf = e.s.rf ∧ (Eval.turn w slot e m).s.ct = e.s.ct ∧
    (Eval.turn w slot e m).s.eg = e.s.eg ∧ (Eval.turn w slot e m).s.pa = e.s.pa ∧ (Eval.turn w slot e m).s.mp = e.s.mp ∧
    (Eval.turn w slot e m).s.pins = e.s.pins ∧ (Eval.turn w slot e m).s.mcsLow = e.s.mcsLow ∧
    (Eval.turn w slot e m).s.freeIdx = e.s.freeIdx ∧
    (Eval.turn w slot e m).s.pending = e.s.pending ∧ (Eval.turn w slot e m).s.shape = e.s.shape := by
  unfold Eval.turn
  dsimp only
  repeat' split
  all_goals simp

@[simp] theorem evaluate_frame (s : State) (w : Fin 16) (slot : Nat) (r : Result) :
    (evaluate s w slot r).s.hold = s.hold ∧ (evaluate s w slot r).s.ig = s.ig ∧
    (evaluate s w slot r).s.wt = s.wt ∧ (evaluate s w slot r).s.ae = s.ae ∧
    (evaluate s w slot r).s.rf = s.rf ∧ (evaluate s w slot r).s.ct = s.ct ∧
    (evaluate s w slot r).s.eg = s.eg ∧ (evaluate s w slot r).s.pa = s.pa ∧
    (evaluate s w slot r).s.mp = s.mp ∧ (evaluate s w slot r).s.pins = s.pins ∧
    (evaluate s w slot r).s.mcsLow = s.mcsLow ∧
    (evaluate s w slot r).s.freeIdx = s.freeIdx ∧ (evaluate s w slot r).s.pending = s.pending ∧
    (evaluate s w slot r).s.shape = s.shape := by
  simp [evaluate]

@[simp] theorem State.withholdResult_frame (s : State) (i : Fin 64) (a : Accum) (r : Result) (m : Fin 4) :
    (s.withholdResult i a r m).hold = s.hold ∧ (s.withholdResult i a r m).ig = s.ig ∧
    (s.withholdResult i a r m).rf = s.rf ∧ (s.withholdResult i a r m).lm = s.lm ∧
    (s.withholdResult i a r m).ct = s.ct ∧ (s.withholdResult i a r m).eg = s.eg ∧
    (s.withholdResult i a r m).pa = s.pa ∧ (s.withholdResult i a r m).mp = s.mp ∧
    (s.withholdResult i a r m).pins = s.pins ∧ (s.withholdResult i a r m).mcsLow = s.mcsLow ∧
    (s.withholdResult i a r m).freeIdx = s.freeIdx ∧
    (s.withholdResult i a r m).pending = s.pending ∧
    (s.withholdResult i a r m).ae.commitList = s.ae.commitList ∧
    (s.withholdResult i a r m).ae.holdTimer = s.ae.holdTimer ∧
    (s.withholdResult i a r m).ae.flush = s.ae.flush ∧ (s.withholdResult i a r m).shape = s.shape := by
  simp [State.withholdResult]

@[simp] theorem State.joinCommitList_frame (s : State) (i : Fin 64) (c : Completed) :
    (s.joinCommitList i c).hold = s.hold ∧ (s.joinCommitList i c).ig = s.ig ∧
    (s.joinCommitList i c).wt = s.wt ∧ (s.joinCommitList i c).rf = s.rf ∧ (s.joinCommitList i c).lm = s.lm ∧
    (s.joinCommitList i c).ct = s.ct ∧ (s.joinCommitList i c).eg = s.eg ∧ (s.joinCommitList i c).pa = s.pa ∧
    (s.joinCommitList i c).evq = s.evq ∧ (s.joinCommitList i c).mp = s.mp ∧
    (s.joinCommitList i c).pins = s.pins ∧ (s.joinCommitList i c).mcsLow = s.mcsLow ∧
    (s.joinCommitList i c).freeIdx = s.freeIdx ∧
    (s.joinCommitList i c).pending = s.pending ∧ (s.joinCommitList i c).ae.holdTimer = s.ae.holdTimer ∧
    (s.joinCommitList i c).ae.flush = s.ae.flush ∧ (s.joinCommitList i c).shape = s.shape := by
  simp [State.joinCommitList]

@[simp] theorem State.complete_frame (s : State) (i : Fin 64) (p f : Bool) :
    (s.complete i p f).hold = s.hold ∧ (s.complete i p f).ig = s.ig ∧ (s.complete i p f).rf = s.rf ∧
    (s.complete i p f).ct = s.ct ∧ (s.complete i p f).eg = s.eg ∧ (s.complete i p f).pa = s.pa ∧
    (s.complete i p f).mp = s.mp ∧ (s.complete i p f).pins = s.pins ∧ (s.complete i p f).mcsLow = s.mcsLow ∧
    (s.complete i p f).freeIdx = s.freeIdx ∧ (s.complete i p f).pending = s.pending ∧
    (s.complete i p f).ae.holdTimer = s.ae.holdTimer ∧ (s.complete i p f).ae.flush = s.ae.flush ∧
    (s.complete i p f).shape = s.shape := by
  unfold State.complete
  split
  · dsimp only
    split <;> simp
  · simp
  · simp

@[simp] theorem State.completeAll_frame (s : State) (l : List (Fin 64)) (p f : Bool) :
    (s.completeAll l p f).hold = s.hold ∧ (s.completeAll l p f).ig = s.ig ∧ (s.completeAll l p f).rf = s.rf ∧
    (s.completeAll l p f).ct = s.ct ∧ (s.completeAll l p f).eg = s.eg ∧ (s.completeAll l p f).pa = s.pa ∧
    (s.completeAll l p f).mp = s.mp ∧ (s.completeAll l p f).pins = s.pins ∧ (s.completeAll l p f).mcsLow = s.mcsLow ∧
    (s.completeAll l p f).freeIdx = s.freeIdx ∧ (s.completeAll l p f).pending = s.pending ∧
    (s.completeAll l p f).ae.holdTimer = s.ae.holdTimer ∧ (s.completeAll l p f).ae.flush = s.ae.flush ∧
    (s.completeAll l p f).shape = s.shape := by
  unfold State.completeAll
  induction l generalizing s with
  | nil => simp
  | cons x xs ih => simp only [List.foldl_cons]; simpa using ih (s.complete x p f)

@[simp] theorem State.allocate_frame (s : State) (w : Fin 16) (slot : Nat) :
    (s.allocate w slot).hold = s.hold ∧ (s.allocate w slot).ig = s.ig ∧ (s.allocate w slot).wt = s.wt ∧
    (s.allocate w slot).rf = s.rf ∧ (s.allocate w slot).lm = s.lm ∧ (s.allocate w slot).ct = s.ct ∧
    (s.allocate w slot).eg = s.eg ∧ (s.allocate w slot).pa = s.pa ∧ (s.allocate w slot).evq = s.evq ∧
    (s.allocate w slot).mp = s.mp ∧ (s.allocate w slot).pins = s.pins ∧ (s.allocate w slot).mcsLow = s.mcsLow ∧
    (s.allocate w slot).freeIdx = s.freeIdx ∧ (s.allocate w slot).pending = s.pending ∧
    (s.allocate w slot).ae.commitList = s.ae.commitList ∧ (s.allocate w slot).ae.holdTimer = s.ae.holdTimer ∧
    (s.allocate w slot).ae.flush = s.ae.flush ∧ (s.allocate w slot).shape = s.shape := by
  unfold State.allocate
  repeat' split
  all_goals simp

@[simp] theorem State.addSample_frame (s : State) (w : Fin 16) (p : Nat × BitVec 48) :
    (s.addSample w p).hold = s.hold ∧ (s.addSample w p).ig = s.ig ∧ (s.addSample w p).wt = s.wt ∧
    (s.addSample w p).rf = s.rf ∧ (s.addSample w p).lm = s.lm ∧ (s.addSample w p).ct = s.ct ∧
    (s.addSample w p).eg = s.eg ∧ (s.addSample w p).pa = s.pa ∧ (s.addSample w p).evq = s.evq ∧
    (s.addSample w p).mp = s.mp ∧ (s.addSample w p).pins = s.pins ∧ (s.addSample w p).mcsLow = s.mcsLow ∧
    (s.addSample w p).freeIdx = s.freeIdx ∧
    (s.addSample w p).pending = s.pending ∧ (s.addSample w p).ae.commitList = s.ae.commitList ∧
    (s.addSample w p).ae.holdTimer = s.ae.holdTimer ∧ (s.addSample w p).ae.flush = s.ae.flush ∧
    (s.addSample w p).shape = s.shape := by
  unfold State.addSample
  repeat' split
  all_goals simp

@[simp] theorem State.completeIfFull_frame (s : State) (w : Fin 16) (slot : Nat) :
    (s.completeIfFull w slot).hold = s.hold ∧ (s.completeIfFull w slot).ig = s.ig ∧
    (s.completeIfFull w slot).rf = s.rf ∧ (s.completeIfFull w slot).ct = s.ct ∧
    (s.completeIfFull w slot).eg = s.eg ∧ (s.completeIfFull w slot).pa = s.pa ∧
    (s.completeIfFull w slot).mp = s.mp ∧ (s.completeIfFull w slot).pins = s.pins ∧
    (s.completeIfFull w slot).mcsLow = s.mcsLow ∧
    (s.completeIfFull w slot).freeIdx = s.freeIdx ∧ (s.completeIfFull w slot).pending = s.pending ∧
    (s.completeIfFull w slot).ae.holdTimer = s.ae.holdTimer ∧
    (s.completeIfFull w slot).ae.flush = s.ae.flush ∧ (s.completeIfFull w slot).shape = s.shape := by
  unfold State.completeIfFull
  repeat' split
  all_goals simp

@[simp] theorem State.allocateAll_frame (s : State) (w : Fin 16) (l : List (Nat × BitVec 48)) :
    (s.allocateAll w l).hold = s.hold ∧ (s.allocateAll w l).ig = s.ig ∧ (s.allocateAll w l).wt = s.wt ∧
    (s.allocateAll w l).rf = s.rf ∧ (s.allocateAll w l).lm = s.lm ∧ (s.allocateAll w l).ct = s.ct ∧
    (s.allocateAll w l).eg = s.eg ∧ (s.allocateAll w l).pa = s.pa ∧ (s.allocateAll w l).evq = s.evq ∧
    (s.allocateAll w l).mp = s.mp ∧ (s.allocateAll w l).pins = s.pins ∧ (s.allocateAll w l).mcsLow = s.mcsLow ∧
    (s.allocateAll w l).freeIdx = s.freeIdx ∧ (s.allocateAll w l).pending = s.pending ∧
    (s.allocateAll w l).ae.commitList = s.ae.commitList ∧ (s.allocateAll w l).ae.holdTimer = s.ae.holdTimer ∧
    (s.allocateAll w l).ae.flush = s.ae.flush ∧ (s.allocateAll w l).shape = s.shape := by
  unfold State.allocateAll
  induction l generalizing s with
  | nil => simp
  | cons x xs ih => simp only [List.foldl_cons]; simpa using ih (s.allocate w x.1)

@[simp] theorem State.addAll_frame (s : State) (w : Fin 16) (l : List (Nat × BitVec 48)) :
    (s.addAll w l).hold = s.hold ∧ (s.addAll w l).ig = s.ig ∧ (s.addAll w l).wt = s.wt ∧
    (s.addAll w l).rf = s.rf ∧ (s.addAll w l).lm = s.lm ∧ (s.addAll w l).ct = s.ct ∧
    (s.addAll w l).eg = s.eg ∧ (s.addAll w l).pa = s.pa ∧ (s.addAll w l).evq = s.evq ∧
    (s.addAll w l).mp = s.mp ∧ (s.addAll w l).pins = s.pins ∧ (s.addAll w l).mcsLow = s.mcsLow ∧
    (s.addAll w l).freeIdx = s.freeIdx ∧
    (s.addAll w l).pending = s.pending ∧ (s.addAll w l).ae.commitList = s.ae.commitList ∧
    (s.addAll w l).ae.holdTimer = s.ae.holdTimer ∧ (s.addAll w l).ae.flush = s.ae.flush ∧
    (s.addAll w l).shape = s.shape := by
  unfold State.addAll
  induction l generalizing s with
  | nil => simp
  | cons x xs ih => simp only [List.foldl_cons]; simpa using ih (s.addSample w x)

@[simp] theorem State.completeFull_frame (s : State) (w : Fin 16) (l : List (Nat × BitVec 48)) :
    (s.completeFull w l).hold = s.hold ∧ (s.completeFull w l).ig = s.ig ∧ (s.completeFull w l).rf = s.rf ∧
    (s.completeFull w l).ct = s.ct ∧ (s.completeFull w l).eg = s.eg ∧ (s.completeFull w l).pa = s.pa ∧
    (s.completeFull w l).mp = s.mp ∧ (s.completeFull w l).pins = s.pins ∧ (s.completeFull w l).mcsLow = s.mcsLow ∧
    (s.completeFull w l).freeIdx = s.freeIdx ∧ (s.completeFull w l).pending = s.pending ∧
    (s.completeFull w l).ae.holdTimer = s.ae.holdTimer ∧ (s.completeFull w l).ae.flush = s.ae.flush ∧
    (s.completeFull w l).shape = s.shape := by
  unfold State.completeFull
  induction l generalizing s with
  | nil => simp
  | cons x xs ih => simp only [List.foldl_cons]; simpa using ih (s.completeIfFull w x.1)

@[simp] theorem State.absorb_frame (s : State) (w : Fin 16) (l : List (Nat × BitVec 48)) :
    (s.absorb w l).hold = s.hold ∧ (s.absorb w l).ig = s.ig ∧ (s.absorb w l).rf = s.rf ∧
    (s.absorb w l).ct = s.ct ∧ (s.absorb w l).eg = s.eg ∧ (s.absorb w l).pa = s.pa ∧
    (s.absorb w l).mp = s.mp ∧ (s.absorb w l).pins = s.pins ∧ (s.absorb w l).mcsLow = s.mcsLow ∧
    (s.absorb w l).freeIdx = s.freeIdx ∧
    (s.absorb w l).pending = s.pending ∧ (s.absorb w l).ae.holdTimer = s.ae.holdTimer ∧
    (s.absorb w l).ae.flush = s.ae.flush ∧ (s.absorb w l).shape = s.shape := by
  simp [State.absorb]

@[simp] theorem State.flushLeave_frame (s : State) (w : Fin 16) (mark entered : Bool) :
    (s.flushLeave w mark entered).hold = s.hold ∧ (s.flushLeave w mark entered).ig = s.ig ∧
    (s.flushLeave w mark entered).wt = s.wt ∧ (s.flushLeave w mark entered).rf = s.rf ∧
    (s.flushLeave w mark entered).lm = s.lm ∧ (s.flushLeave w mark entered).ct = s.ct ∧
    (s.flushLeave w mark entered).eg = s.eg ∧ (s.flushLeave w mark entered).pa = s.pa ∧
    (s.flushLeave w mark entered).mp = s.mp ∧ (s.flushLeave w mark entered).pins = s.pins ∧
    (s.flushLeave w mark entered).mcsLow = s.mcsLow ∧
    (s.flushLeave w mark entered).freeIdx = s.freeIdx ∧ (s.flushLeave w mark entered).pending = s.pending ∧
    (s.flushLeave w mark entered).ae.pool = s.ae.pool ∧
    (s.flushLeave w mark entered).ae.commitList = s.ae.commitList ∧
    (s.flushLeave w mark entered).ae.holdTimer = s.ae.holdTimer ∧
    (s.flushLeave w mark entered).shape = s.shape := by
  unfold State.flushLeave
  dsimp only
  repeat' split
  all_goals simp

@[simp] theorem State.keepDiscard_frame (s : State) (i : Fin 64) (c : Completed) :
    (s.keepDiscard i c).hold = s.hold ∧ (s.keepDiscard i c).ig = s.ig ∧ (s.keepDiscard i c).rf = s.rf ∧
    (s.keepDiscard i c).lm = s.lm ∧ (s.keepDiscard i c).ct = s.ct ∧ (s.keepDiscard i c).eg = s.eg ∧
    (s.keepDiscard i c).pa = s.pa ∧ (s.keepDiscard i c).mp = s.mp ∧ (s.keepDiscard i c).pins = s.pins ∧
    (s.keepDiscard i c).mcsLow = s.mcsLow ∧
    (s.keepDiscard i c).freeIdx = s.freeIdx ∧ (s.keepDiscard i c).pending = s.pending ∧
    (s.keepDiscard i c).ae.commitList = s.ae.commitList ∧ (s.keepDiscard i c).ae.holdTimer = s.ae.holdTimer ∧
    (s.keepDiscard i c).shape = s.shape := by
  simp [State.keepDiscard]

@[simp] theorem State.keepTest_frame (s : State) :
    s.keepTest.hold = s.hold ∧ s.keepTest.ig = s.ig ∧ s.keepTest.rf = s.rf ∧
    s.keepTest.lm = s.lm ∧ s.keepTest.ct = s.ct ∧ s.keepTest.eg = s.eg ∧
    s.keepTest.pa = s.pa ∧ s.keepTest.mp = s.mp ∧ s.keepTest.pins = s.pins ∧
    s.keepTest.mcsLow = s.mcsLow ∧
    s.keepTest.freeIdx = s.freeIdx ∧ s.keepTest.pending = s.pending ∧
    s.keepTest.ae.holdTimer = s.ae.holdTimer ∧ s.keepTest.shape = s.shape := by
  unfold State.keepTest
  split
  · simp
  · repeat' split
    all_goals simp

@[simp] theorem keepTests_frame (n : Nat) (s : State) :
    (keepTests n s).hold = s.hold ∧ (keepTests n s).ig = s.ig ∧ (keepTests n s).rf = s.rf ∧
    (keepTests n s).lm = s.lm ∧ (keepTests n s).ct = s.ct ∧ (keepTests n s).eg = s.eg ∧
    (keepTests n s).pa = s.pa ∧ (keepTests n s).mp = s.mp ∧ (keepTests n s).pins = s.pins ∧
    (keepTests n s).mcsLow = s.mcsLow ∧
    (keepTests n s).freeIdx = s.freeIdx ∧ (keepTests n s).pending = s.pending ∧
    (keepTests n s).ae.holdTimer = s.ae.holdTimer ∧ (keepTests n s).shape = s.shape := by
  induction n generalizing s with
  | zero => simp [keepTests]
  | succ n ih => simpa [keepTests] using ih s.keepTest

@[simp] theorem State.keepRun_frame (s : State) :
    s.keepRun.hold = s.hold ∧ s.keepRun.ig = s.ig ∧ s.keepRun.rf = s.rf ∧ s.keepRun.lm = s.lm ∧
    s.keepRun.ct = s.ct ∧ s.keepRun.eg = s.eg ∧ s.keepRun.pa = s.pa ∧ s.keepRun.mp = s.mp ∧
    s.keepRun.pins = s.pins ∧ s.keepRun.mcsLow = s.mcsLow ∧ s.keepRun.freeIdx = s.freeIdx ∧
    s.keepRun.pending = s.pending ∧
    s.keepRun.ae.holdTimer = s.ae.holdTimer ∧ s.keepRun.shape = s.shape := by
  exact keepTests_frame _ s

@[simp] theorem State.grantCommit_frame (s : State) (i : Fin 64) (c : Completed) :
    (s.grantCommit i c).hold = s.hold ∧ (s.grantCommit i c).ig = s.ig ∧ (s.grantCommit i c).rf = s.rf ∧
    (s.grantCommit i c).lm = s.lm ∧ (s.grantCommit i c).pa = s.pa ∧ (s.grantCommit i c).mp = s.mp ∧
    (s.grantCommit i c).pins = s.pins ∧ (s.grantCommit i c).mcsLow = s.mcsLow ∧
    (s.grantCommit i c).freeIdx = s.freeIdx ∧
    (s.grantCommit i c).pending = s.pending ∧ (s.grantCommit i c).eg.abandoned = s.eg.abandoned ∧
    (s.grantCommit i c).eg.timer = s.eg.timer ∧ (s.grantCommit i c).ae.holdTimer = s.ae.holdTimer ∧
    (s.grantCommit i c).shape = s.shape := by
  unfold State.grantCommit
  dsimp only
  split <;> simp

@[simp] theorem State.consume_frame (s : State) (l : List Nat) :
    (s.consume l).hold = s.hold ∧ (s.consume l).ig = s.ig ∧ (s.consume l).wt = s.wt ∧
    (s.consume l).ae = s.ae ∧ (s.consume l).rf = s.rf ∧ (s.consume l).lm = s.lm ∧ (s.consume l).eg = s.eg ∧
    (s.consume l).pa = s.pa ∧ (s.consume l).evq = s.evq ∧ (s.consume l).mp = s.mp ∧
    (s.consume l).pins = s.pins ∧ (s.consume l).mcsLow = s.mcsLow ∧ (s.consume l).freeIdx = s.freeIdx ∧
    (s.consume l).pending = s.pending ∧
    (s.consume l).shape = s.shape := by
  unfold State.consume
  induction l generalizing s with
  | nil => simp
  | cons x xs ih => simp only [List.foldl_cons]; simpa using ih (s.setSlot x { s.slotAt x with unread := false })

@[simp] theorem State.grantIngress_frame (s : State) (o : Offer) :
    (s.grantIngress o).hold = s.hold ∧ (s.grantIngress o).wt = s.wt ∧ (s.grantIngress o).ae = s.ae ∧
    (s.grantIngress o).rf = s.rf ∧ (s.grantIngress o).lm = s.lm ∧ (s.grantIngress o).pa = s.pa ∧
    (s.grantIngress o).evq = s.evq ∧ (s.grantIngress o).mp = s.mp ∧ (s.grantIngress o).pins = s.pins ∧
    (s.grantIngress o).mcsLow = s.mcsLow ∧
    (s.grantIngress o).freeIdx = s.freeIdx ∧ (s.grantIngress o).pending = s.pending ∧
    (s.grantIngress o).eg.abandoned = s.eg.abandoned ∧ (s.grantIngress o).eg.timer = s.eg.timer ∧
    (s.grantIngress o).ig.rol = s.ig.rol ∧ (s.grantIngress o).ig.nextLink = s.ig.nextLink ∧
    (s.grantIngress o).shape = s.shape := by
  unfold State.grantIngress
  dsimp only
  split <;> simp

@[simp] theorem State.commitFailure_frame (s : State) (l : CommitLink) :
    (s.commitFailure l).hold = s.hold ∧ (s.commitFailure l).ig = s.ig ∧ (s.commitFailure l).wt = s.wt ∧
    (s.commitFailure l).ae = s.ae ∧ (s.commitFailure l).rf = s.rf ∧ (s.commitFailure l).lm = s.lm ∧
    (s.commitFailure l).eg = s.eg ∧ (s.commitFailure l).pa = s.pa ∧ (s.commitFailure l).evq = s.evq ∧
    (s.commitFailure l).mp = s.mp ∧ (s.commitFailure l).pins = s.pins ∧ (s.commitFailure l).mcsLow = s.mcsLow ∧
    (s.commitFailure l).freeIdx = s.freeIdx ∧ (s.commitFailure l).pending = s.pending ∧
    (s.commitFailure l).shape = s.shape := by
  unfold State.commitFailure
  split <;> simp

@[simp] theorem State.commitError_frame (s : State) (l : CommitLink) (aux : Nat) :
    (s.commitError l aux).hold = s.hold ∧ (s.commitError l aux).ig = s.ig ∧ (s.commitError l aux).wt = s.wt ∧
    (s.commitError l aux).ae = s.ae ∧ (s.commitError l aux).rf = s.rf ∧ (s.commitError l aux).lm = s.lm ∧
    (s.commitError l aux).eg = s.eg ∧ (s.commitError l aux).pa = s.pa ∧ (s.commitError l aux).mp = s.mp ∧
    (s.commitError l aux).pins = s.pins ∧ (s.commitError l aux).mcsLow = s.mcsLow ∧
    (s.commitError l aux).freeIdx = s.freeIdx ∧
    (s.commitError l aux).pending = s.pending ∧ (s.commitError l aux).shape = s.shape := by
  simp [State.commitError]

@[simp] theorem issuePointsFuel_frame (n : Nat) (s : State) :
    (issuePointsFuel n s).hold = s.hold ∧ (issuePointsFuel n s).ig = s.ig ∧ (issuePointsFuel n s).wt = s.wt ∧
    (issuePointsFuel n s).ae = s.ae ∧ (issuePointsFuel n s).rf = s.rf ∧ (issuePointsFuel n s).lm = s.lm ∧
    (issuePointsFuel n s).pa = s.pa ∧ (issuePointsFuel n s).mp = s.mp ∧ (issuePointsFuel n s).pins = s.pins ∧
    (issuePointsFuel n s).mcsLow = s.mcsLow ∧
    (issuePointsFuel n s).freeIdx = s.freeIdx ∧ (issuePointsFuel n s).pending = s.pending ∧
    (issuePointsFuel n s).eg.abandoned = s.eg.abandoned ∧ (issuePointsFuel n s).eg.timer = s.eg.timer ∧
    (issuePointsFuel n s).shape = s.shape := by
  induction n generalizing s with
  | zero => simp [issuePointsFuel]
  | succ n ih =>
    unfold issuePointsFuel
    repeat' split
    all_goals try simp
    · rename_i l _ _
      simpa using ih ((s.setQueue (dropOldestWaiting s.eg.queue)).commitError l 2)

@[simp] theorem State.issuePoints_frame (s : State) :
    s.issuePoints.hold = s.hold ∧ s.issuePoints.ig = s.ig ∧ s.issuePoints.wt = s.wt ∧
    s.issuePoints.ae = s.ae ∧ s.issuePoints.rf = s.rf ∧ s.issuePoints.lm = s.lm ∧ s.issuePoints.pa = s.pa ∧
    s.issuePoints.mp = s.mp ∧ s.issuePoints.pins = s.pins ∧ s.issuePoints.mcsLow = s.mcsLow ∧
    s.issuePoints.freeIdx = s.freeIdx ∧
    s.issuePoints.pending = s.pending ∧ s.issuePoints.eg.abandoned = s.eg.abandoned ∧
    s.issuePoints.eg.timer = s.eg.timer ∧ s.issuePoints.shape = s.shape := by
  exact issuePointsFuel_frame _ s

@[simp] theorem State.completeEntry_frame (s : State) (e : EgressEntry) (st : LinkStatus) (d : Lanes) :
    (s.completeEntry e st d).hold = s.hold ∧ (s.completeEntry e st d).wt = s.wt ∧
    (s.completeEntry e st d).ae = s.ae ∧ (s.completeEntry e st d).rf = s.rf ∧
    (s.completeEntry e st d).lm = s.lm ∧ (s.completeEntry e st d).pa = s.pa ∧
    (s.completeEntry e st d).mp = s.mp ∧ (s.completeEntry e st d).pins = s.pins ∧
    (s.completeEntry e st d).mcsLow = s.mcsLow ∧
    (s.completeEntry e st d).freeIdx = s.freeIdx ∧ (s.completeEntry e st d).pending = s.pending ∧
    (s.completeEntry e st d).ig.nextLink = s.ig.nextLink ∧ (s.completeEntry e st d).ig.intake = s.ig.intake ∧
    (s.completeEntry e st d).shape = s.shape ∧ (s.completeEntry e st d).eg.abandoned = s.eg.abandoned ∧
    (s.completeEntry e st d).eg.timer = s.eg.timer := by
  unfold State.completeEntry
  dsimp only
  repeat' split
  all_goals simp

@[simp] theorem State.timeoutEntry_frame (s : State) (e : EgressEntry) :
    (s.timeoutEntry e).hold = s.hold ∧ (s.timeoutEntry e).wt = s.wt ∧ (s.timeoutEntry e).ae = s.ae ∧
    (s.timeoutEntry e).rf = s.rf ∧ (s.timeoutEntry e).lm = s.lm ∧ (s.timeoutEntry e).pa = s.pa ∧
    (s.timeoutEntry e).mp = s.mp ∧ (s.timeoutEntry e).pins = s.pins ∧ (s.timeoutEntry e).mcsLow = s.mcsLow ∧
    (s.timeoutEntry e).freeIdx = s.freeIdx ∧ (s.timeoutEntry e).pending = s.pending ∧
    (s.timeoutEntry e).ig.nextLink = s.ig.nextLink ∧ (s.timeoutEntry e).ig.intake = s.ig.intake ∧
    (s.timeoutEntry e).shape = s.shape ∧ (s.timeoutEntry e).eg.timer = s.eg.timer := by
  unfold State.timeoutEntry
  dsimp only
  repeat' split
  all_goals simp

@[simp] theorem startTimerFuel_frame (n : Nat) (s : State) :
    (startTimerFuel n s).hold = s.hold ∧ (startTimerFuel n s).wt = s.wt ∧ (startTimerFuel n s).ae = s.ae ∧
    (startTimerFuel n s).rf = s.rf ∧ (startTimerFuel n s).lm = s.lm ∧ (startTimerFuel n s).pa = s.pa ∧
    (startTimerFuel n s).mp = s.mp ∧ (startTimerFuel n s).pins = s.pins ∧ (startTimerFuel n s).mcsLow = s.mcsLow ∧
    (startTimerFuel n s).freeIdx = s.freeIdx ∧ (startTimerFuel n s).pending = s.pending ∧
    (startTimerFuel n s).ig.nextLink = s.ig.nextLink ∧ (startTimerFuel n s).ig.intake = s.ig.intake ∧
    (startTimerFuel n s).shape = s.shape := by
  induction n generalizing s with
  | zero => simp [startTimerFuel]
  | succ n ih =>
    unfold startTimerFuel
    repeat' split
    · simp
    · rename_i e _ _
      simpa using ih (s.timeoutEntry e)
    · simp

@[simp] theorem State.startTimer_frame (s : State) :
    s.startTimer.hold = s.hold ∧ s.startTimer.wt = s.wt ∧ s.startTimer.ae = s.ae ∧ s.startTimer.rf = s.rf ∧
    s.startTimer.lm = s.lm ∧ s.startTimer.pa = s.pa ∧ s.startTimer.mp = s.mp ∧ s.startTimer.pins = s.pins ∧
    s.startTimer.mcsLow = s.mcsLow ∧
    s.startTimer.freeIdx = s.freeIdx ∧ s.startTimer.pending = s.pending ∧
    s.startTimer.ig.nextLink = s.ig.nextLink ∧ s.startTimer.ig.intake = s.ig.intake ∧
    s.startTimer.shape = s.shape := by
  exact startTimerFuel_frame _ s

@[simp] theorem State.applyProgram_frame (s : State) (p : Program) (rest : List Program) (route : Nat) :
    (s.applyProgram p rest route).hold = s.hold ∧ (s.applyProgram p rest route).ig = s.ig ∧
    (s.applyProgram p rest route).ae = s.ae ∧ (s.applyProgram p rest route).rf = s.rf ∧
    (s.applyProgram p rest route).mp = s.mp ∧ (s.applyProgram p rest route).pins = s.pins ∧
    (s.applyProgram p rest route).mcsLow = s.mcsLow ∧
    (s.applyProgram p rest route).freeIdx = s.freeIdx ∧ (s.applyProgram p rest route).pending = s.pending ∧
    (s.applyProgram p rest route).eg.abandoned = s.eg.abandoned ∧
    (s.applyProgram p rest route).eg.timer = s.eg.timer ∧
    (s.applyProgram p rest route).pa.drainTimer = s.pa.drainTimer := by
  simp [State.applyProgram]

@[simp] theorem State.rejectProgram_frame (s : State) (p : Program) (rest : List Program) (cause : Nat) (v : Fin 16) :
    (s.rejectProgram p rest cause v).hold = s.hold ∧ (s.rejectProgram p rest cause v).ig = s.ig ∧
    (s.rejectProgram p rest cause v).ae = s.ae ∧ (s.rejectProgram p rest cause v).rf = s.rf ∧
    (s.rejectProgram p rest cause v).lm = s.lm ∧ (s.rejectProgram p rest cause v).ct = s.ct ∧
    (s.rejectProgram p rest cause v).eg = s.eg ∧ (s.rejectProgram p rest cause v).mp = s.mp ∧
    (s.rejectProgram p rest cause v).pins = s.pins ∧ (s.rejectProgram p rest cause v).mcsLow = s.mcsLow ∧
    (s.rejectProgram p rest cause v).freeIdx = s.freeIdx ∧
    (s.rejectProgram p rest cause v).pending = s.pending := by
  simp [State.rejectProgram]

@[simp] theorem State.applyHead_frame (s : State) (p : Program) (rest : List Program) (route : Nat) :
    (s.applyHead p rest route).hold = s.hold ∧ (s.applyHead p rest route).ig = s.ig ∧
    (s.applyHead p rest route).ae = s.ae ∧ (s.applyHead p rest route).rf = s.rf ∧
    (s.applyHead p rest route).mp = s.mp ∧ (s.applyHead p rest route).pins = s.pins ∧
    (s.applyHead p rest route).mcsLow = s.mcsLow ∧
    (s.applyHead p rest route).freeIdx = s.freeIdx ∧ (s.applyHead p rest route).pending = s.pending ∧
    (s.applyHead p rest route).eg.abandoned = s.eg.abandoned ∧
    (s.applyHead p rest route).eg.timer = s.eg.timer := by
  unfold State.applyHead
  split <;> simp

@[simp] theorem State.startDrain_frame (s : State) (w : Fin 16) :
    (s.startDrain w).hold = s.hold ∧ (s.startDrain w).ig = s.ig ∧ (s.startDrain w).ae = s.ae ∧
    (s.startDrain w).rf = s.rf ∧ (s.startDrain w).lm = s.lm ∧ (s.startDrain w).ct = s.ct ∧
    (s.startDrain w).eg = s.eg ∧ (s.startDrain w).evq = s.evq ∧ (s.startDrain w).mp = s.mp ∧
    (s.startDrain w).pins = s.pins ∧ (s.startDrain w).mcsLow = s.mcsLow ∧ (s.startDrain w).freeIdx = s.freeIdx ∧
    (s.startDrain w).pending = s.pending ∧ (s.startDrain w).pa.stage = s.pa.stage := by
  simp [State.startDrain]

@[simp] theorem State.discard_frame (s : State) (w : Fin 16) (i : Fin 64) :
    (s.discard w i).hold = s.hold ∧ (s.discard w i).ig = s.ig ∧ (s.discard w i).rf = s.rf ∧
    (s.discard w i).lm = s.lm ∧ (s.discard w i).ct = s.ct ∧ (s.discard w i).eg = s.eg ∧
    (s.discard w i).pa = s.pa ∧ (s.discard w i).evq = s.evq ∧ (s.discard w i).mp = s.mp ∧
    (s.discard w i).pins = s.pins ∧ (s.discard w i).mcsLow = s.mcsLow ∧ (s.discard w i).freeIdx = s.freeIdx ∧
    (s.discard w i).pending = s.pending ∧ (s.discard w i).ae.commitList = s.ae.commitList ∧
    (s.discard w i).ae.holdTimer = s.ae.holdTimer ∧ (s.discard w i).ae.flush = s.ae.flush ∧
    (s.discard w i).shape = s.shape := by
  unfold State.discard
  repeat' split
  all_goals simp

@[simp] theorem foldl_discard_frame (l : List (Fin 64)) (s : State) (w : Fin 16) :
    (l.foldl (fun t i => t.discard w i) s).hold = s.hold ∧ (l.foldl (fun t i => t.discard w i) s).ig = s.ig ∧
    (l.foldl (fun t i => t.discard w i) s).rf = s.rf ∧ (l.foldl (fun t i => t.discard w i) s).lm = s.lm ∧
    (l.foldl (fun t i => t.discard w i) s).ct = s.ct ∧ (l.foldl (fun t i => t.discard w i) s).eg = s.eg ∧
    (l.foldl (fun t i => t.discard w i) s).pa = s.pa ∧ (l.foldl (fun t i => t.discard w i) s).evq = s.evq ∧
    (l.foldl (fun t i => t.discard w i) s).mp = s.mp ∧ (l.foldl (fun t i => t.discard w i) s).pins = s.pins ∧
    (l.foldl (fun t i => t.discard w i) s).mcsLow = s.mcsLow ∧
    (l.foldl (fun t i => t.discard w i) s).freeIdx = s.freeIdx ∧
    (l.foldl (fun t i => t.discard w i) s).pending = s.pending ∧
    (l.foldl (fun t i => t.discard w i) s).ae.commitList = s.ae.commitList ∧
    (l.foldl (fun t i => t.discard w i) s).ae.holdTimer = s.ae.holdTimer ∧
    (l.foldl (fun t i => t.discard w i) s).ae.flush = s.ae.flush ∧
    (l.foldl (fun t i => t.discard w i) s).shape = s.shape := by
  induction l generalizing s with
  | nil => simp
  | cons x xs ih => simp only [List.foldl_cons]; simpa using ih (s.discard w x)

@[simp] theorem State.flushDiscard_frame (s : State) (w : Fin 16) (n : Nat) :
    (s.flushDiscard w n).hold = s.hold ∧ (s.flushDiscard w n).ig = s.ig ∧ (s.flushDiscard w n).wt = s.wt ∧
    (s.flushDiscard w n).rf = s.rf ∧ (s.flushDiscard w n).lm = s.lm ∧ (s.flushDiscard w n).ct = s.ct ∧
    (s.flushDiscard w n).eg = s.eg ∧ (s.flushDiscard w n).pa = s.pa ∧ (s.flushDiscard w n).mp = s.mp ∧
    (s.flushDiscard w n).pins = s.pins ∧ (s.flushDiscard w n).mcsLow = s.mcsLow ∧
    (s.flushDiscard w n).freeIdx = s.freeIdx ∧
    (s.flushDiscard w n).pending = s.pending ∧ (s.flushDiscard w n).ae.pool = s.ae.pool ∧
    (s.flushDiscard w n).ae.commitList = s.ae.commitList ∧
    (s.flushDiscard w n).ae.holdTimer = s.ae.holdTimer ∧ (s.flushDiscard w n).shape = s.shape := by
  unfold State.flushDiscard
  dsimp only
  repeat' split
  all_goals simp

@[simp] theorem State.cutOver_frame (s : State) (w : Fin 16) :
    (s.cutOver w).hold = s.hold ∧ (s.cutOver w).ig = s.ig ∧ (s.cutOver w).rf = s.rf ∧
    (s.cutOver w).lm = s.lm ∧ (s.cutOver w).ct = s.ct ∧ (s.cutOver w).eg = s.eg ∧ (s.cutOver w).pa = s.pa ∧
    (s.cutOver w).mp = s.mp ∧ (s.cutOver w).pins = s.pins ∧ (s.cutOver w).mcsLow = s.mcsLow ∧
    (s.cutOver w).freeIdx = s.freeIdx ∧
    (s.cutOver w).pending = s.pending ∧ (s.cutOver w).ae.holdTimer = s.ae.holdTimer ∧
    (s.cutOver w).shape = s.shape := by
  simp [State.cutOver]

@[simp] theorem processHeads_frame (l : List Program) (s : State) :
    (processHeads l s).hold = s.hold ∧ (processHeads l s).rf = s.rf ∧ (processHeads l s).mp = s.mp ∧
    (processHeads l s).pins = s.pins ∧ (processHeads l s).mcsLow = s.mcsLow ∧ (processHeads l s).freeIdx = s.freeIdx ∧
    (processHeads l s).pending = s.pending ∧ (processHeads l s).ig = s.ig ∧
    (processHeads l s).ae.holdTimer = s.ae.holdTimer ∧ (processHeads l s).eg.abandoned = s.eg.abandoned ∧
    (processHeads l s).eg.timer = s.eg.timer := by
  induction l generalizing s with
  | nil => simp [processHeads]
  | cons p rest ih =>
    unfold processHeads
    dsimp only
    repeat' split
    · simpa using ih ((s.setStage (p :: rest)).applyHead p rest 1)
    · simp
    · simpa using ih (((s.setStage (p :: rest)).cutOver p.window).applyHead p rest 4)

@[simp] theorem State.finishDrain_frame (s : State) :
    s.finishDrain.hold = s.hold ∧ s.finishDrain.rf = s.rf ∧ s.finishDrain.mp = s.mp ∧
    s.finishDrain.pins = s.pins ∧ s.finishDrain.mcsLow = s.mcsLow ∧ s.finishDrain.freeIdx = s.freeIdx ∧
    s.finishDrain.pending = s.pending ∧
    s.finishDrain.ig = s.ig ∧ s.finishDrain.ae.holdTimer = s.ae.holdTimer ∧
    s.finishDrain.eg.abandoned = s.eg.abandoned ∧ s.finishDrain.eg.timer = s.eg.timer := by
  unfold State.finishDrain
  repeat' split
  all_goals simp

@[simp] theorem State.afterPool_frame (s : State) :
    s.afterPool.hold = s.hold ∧ s.afterPool.rf = s.rf ∧ s.afterPool.mp = s.mp ∧ s.afterPool.pins = s.pins ∧
    s.afterPool.mcsLow = s.mcsLow ∧
    s.afterPool.freeIdx = s.freeIdx ∧ s.afterPool.pending = s.pending ∧ s.afterPool.ig = s.ig ∧
    s.afterPool.ae.holdTimer = s.ae.holdTimer ∧ s.afterPool.eg.abandoned = s.eg.abandoned ∧
    s.afterPool.eg.timer = s.eg.timer := by
  simp [State.afterPool]

@[simp] theorem State.refuse_frame (s : State) (r : Request) (link : Nat) (k : EventKind) (d : Option Decoded) (n : Nat) :
    (s.refuse r link k d n).hold = s.hold ∧ (s.refuse r link k d n).wt = s.wt ∧
    (s.refuse r link k d n).ae = s.ae ∧ (s.refuse r link k d n).rf = s.rf ∧
    (s.refuse r link k d n).lm = s.lm ∧ (s.refuse r link k d n).ct = s.ct ∧
    (s.refuse r link k d n).eg = s.eg ∧ (s.refuse r link k d n).pa = s.pa ∧
    (s.refuse r link k d n).mp = s.mp ∧ (s.refuse r link k d n).pins = s.pins ∧
    (s.refuse r link k d n).mcsLow = s.mcsLow ∧
    (s.refuse r link k d n).freeIdx = s.freeIdx ∧ (s.refuse r link k d n).pending = s.pending ∧
    (s.refuse r link k d n).ig.nextLink = s.ig.nextLink ∧ (s.refuse r link k d n).shape = s.shape := by
  simp [State.refuse]

@[simp] theorem State.offer_frame (s : State) (r : Request) (link : Nat) :
    (s.offer r link).hold = s.hold ∧ (s.offer r link).wt = s.wt ∧ (s.offer r link).ae = s.ae ∧
    (s.offer r link).rf = s.rf ∧ (s.offer r link).lm = s.lm ∧ (s.offer r link).ct = s.ct ∧
    (s.offer r link).eg = s.eg ∧ (s.offer r link).pa = s.pa ∧ (s.offer r link).evq = s.evq ∧
    (s.offer r link).mp = s.mp ∧ (s.offer r link).pins = s.pins ∧ (s.offer r link).mcsLow = s.mcsLow ∧
    (s.offer r link).freeIdx = s.freeIdx ∧
    (s.offer r link).pending = s.pending ∧ (s.offer r link).ig.rol = s.ig.rol ∧
    (s.offer r link).ig.nextLink = s.ig.nextLink ∧ (s.offer r link).shape = s.shape := by
  simp [State.offer]

@[simp] theorem State.spill_frame (s : State) (r : Request) (link : Nat) (w : Fin 16) (f k cause : Nat) :
    (s.spill r link w f k cause).hold = s.hold ∧ (s.spill r link w f k cause).ae = s.ae ∧
    (s.spill r link w f k cause).rf = s.rf ∧ (s.spill r link w f k cause).lm = s.lm ∧
    (s.spill r link w f k cause).ct = s.ct ∧ (s.spill r link w f k cause).eg = s.eg ∧
    (s.spill r link w f k cause).pa = s.pa ∧ (s.spill r link w f k cause).mp = s.mp ∧
    (s.spill r link w f k cause).pins = s.pins ∧ (s.spill r link w f k cause).mcsLow = s.mcsLow ∧
    (s.spill r link w f k cause).freeIdx = s.freeIdx ∧
    (s.spill r link w f k cause).pending = s.pending ∧ (s.spill r link w f k cause).ig.rol = s.ig.rol ∧
    (s.spill r link w f k cause).ig.nextLink = s.ig.nextLink ∧ (s.spill r link w f k cause).shape = s.shape := by
  simp [State.spill]

@[simp] theorem State.takeSamples_frame (s : State) (r : Request) (link : Nat) (d : Decoded) (kept : Option Timer) :
    (s.takeSamples r link d kept).hold = s.hold ∧ (s.takeSamples r link d kept).rf = s.rf ∧
    (s.takeSamples r link d kept).mp = s.mp ∧ (s.takeSamples r link d kept).pins = s.pins ∧
    (s.takeSamples r link d kept).mcsLow = s.mcsLow ∧
    (s.takeSamples r link d kept).freeIdx = s.freeIdx ∧ (s.takeSamples r link d kept).pending = s.pending ∧
    (s.takeSamples r link d kept).ig.nextLink = s.ig.nextLink ∧
    (s.takeSamples r link d kept).eg.abandoned = s.eg.abandoned ∧
    (s.takeSamples r link d kept).eg.timer = s.eg.timer := by
  unfold State.takeSamples
  dsimp only
  split <;> simp

@[simp] theorem State.classify_frame (s : State) (r : Request) (link : Nat) (kept : Option Timer) :
    (s.classify r link kept).hold = s.hold ∧ (s.classify r link kept).rf = s.rf ∧
    (s.classify r link kept).mp = s.mp ∧ (s.classify r link kept).pins = s.pins ∧
    (s.classify r link kept).mcsLow = s.mcsLow ∧
    (s.classify r link kept).freeIdx = s.freeIdx ∧ (s.classify r link kept).pending = s.pending ∧
    (s.classify r link kept).ig.nextLink = s.ig.nextLink ∧
    (s.classify r link kept).eg.abandoned = s.eg.abandoned ∧ (s.classify r link kept).eg.timer = s.eg.timer := by
  unfold State.classify
  split <;> simp

@[simp] theorem State.release_frame (s : State) :
    s.release.hold = s.hold ∧ s.release.rf = s.rf ∧ s.release.mp = s.mp ∧ s.release.pins = s.pins ∧
    s.release.mcsLow = s.mcsLow ∧
    s.release.freeIdx = s.freeIdx ∧ s.release.pending = s.pending ∧ s.release.ig.nextLink = s.ig.nextLink ∧
    s.release.eg.abandoned = s.eg.abandoned ∧ s.release.eg.timer = s.eg.timer := by
  unfold State.release
  split <;> simp

@[simp] theorem State.settle_frame (before s : State) :
    (State.settle before s).hold = s.hold ∧ (State.settle before s).rf = s.rf ∧
    (State.settle before s).mp = s.mp ∧ (State.settle before s).pins = s.pins ∧
    (State.settle before s).mcsLow = s.mcsLow ∧
    (State.settle before s).freeIdx = s.freeIdx ∧ (State.settle before s).pending = s.pending ∧
    (State.settle before s).ig.nextLink = s.ig.nextLink ∧
    (State.settle before s).eg.abandoned = s.eg.abandoned ∧ (State.settle before s).eg.timer = s.eg.timer := by
  unfold State.settle
  dsimp only
  split <;> simp

end Sys2Proof.Machine
end

