-- ==== Sys2Proof/Laws/Events.lean ====
section
/-! SUPPORT. What each shared operation does to the Event Queue: it takes some records, and nothing else. -/

namespace Sys2Proof.Machine

/-- The Event Queue has taken some records, one after another. -/
inductive EQ.Grows : EQ → EQ → Prop where
  | refl (q : EQ) : EQ.Grows q q
  | take {p q : EQ} (h : EQ.Grows p q) (r : EventRecord) : EQ.Grows p (q.take r)

theorem EQ.Grows.trans {p q r : EQ} (h : EQ.Grows p q) (g : EQ.Grows q r) : EQ.Grows p r := by
  induction g with
  | refl => exact h
  | take _ r ih => exact ih.take r

theorem EQ.Grows.of_eq {p q : EQ} (h : q = p) : EQ.Grows p q := h ▸ EQ.Grows.refl p

/-- Growth from an equal queue: what an operation on a changed state says of the state before. -/
theorem EQ.Grows.after {p q r : EQ} (h : q = p) (g : EQ.Grows q r) : EQ.Grows p r := h ▸ g

@[simp] theorem EQ.take_mask (q : EQ) (r : EventRecord) : (q.take r).mask = q.mask := by
  unfold EQ.take; split <;> rfl

theorem EQ.take_alert (q : EQ) (r : EventRecord) :
    (q.take r).alert = alertLevel (q.take r).events (q.take r).lost (q.take r).mask := by
  unfold EQ.take; split <;> rfl

theorem EQ.take_events (q : EQ) (r : EventRecord) :
    (q.take r).events = if q.events.length < 32 then q.events ++ [r] else q.events := by
  unfold EQ.take
  by_cases h : q.events.length < 32 <;> simp [Config.eventQueue, h, EQ.evalAlert]

theorem EQ.take_lost (q : EQ) (r : EventRecord) :
    (q.take r).lost = if q.events.length < 32 then q.lost else lostPlusOne q.lost := by
  unfold EQ.take
  by_cases h : q.events.length < 32 <;> simp [Config.eventQueue, h, EQ.evalAlert]

/-- Taking records leaves the mask, and the records that were queued stand first. -/
theorem EQ.Grows.mask {p q : EQ} (h : EQ.Grows p q) : q.mask = p.mask := by
  induction h with
  | refl => rfl
  | take _ r ih => simp [ih]

theorem EQ.Grows.keeps {p q : EQ} (h : EQ.Grows p q) : p.events <+: q.events := by
  induction h with
  | refl => exact List.prefix_rfl
  | take _ r ih =>
    rw [EQ.take_events]
    split
    · exact ih.trans (List.prefix_append _ _)
    · exact ih

theorem State.record_grows (s : State) (k : EventKind) (w : Option (Fin 16)) (slot : Option Nat) (d : BitVec 32)
    (n : Nat) : EQ.Grows s.evq (s.record k w slot d n).evq := (EQ.Grows.refl _).take _

theorem Eval.fire_grows (e : Eval) (m : Fin 4) (w : Fin 16) (slot : Nat) : EQ.Grows e.s.evq (e.fire m w slot).s.evq := by
  simpa [Eval.fire] using e.s.record_grows .limit (some w) (some slot) e.r.value m.val

theorem Eval.turn_grows (w : Fin 16) (slot : Nat) (e : Eval) (m : Fin 4) :
    EQ.Grows e.s.evq (Eval.turn w slot e m).s.evq := by
  unfold Eval.turn
  dsimp only
  repeat' split
  all_goals first | exact e.fire_grows m w slot | exact EQ.Grows.refl _

theorem evaluate_grows (s : State) (w : Fin 16) (slot : Nat) (r : Result) : EQ.Grows s.evq (evaluate s w slot r).s.evq :=
  (((Eval.turn_grows w slot ⟨s, r, none⟩ 0).trans (Eval.turn_grows w slot _ 1)).trans
    (Eval.turn_grows w slot _ 2)).trans (Eval.turn_grows w slot _ 3)

theorem State.withholdResult_grows (s : State) (i : Fin 64) (a : Accum) (r : Result) (m : Fin 4) :
    EQ.Grows s.evq (s.withholdResult i a r m).evq := by
  simpa [State.withholdResult, State.drop] using s.record_grows .withheld _ _ _ _

theorem State.complete_grows (s : State) (i : Fin 64) (p f : Bool) : EQ.Grows s.evq (s.complete i p f).evq := by
  unfold State.complete
  split
  · dsimp only
    split
    · exact (evaluate_grows ..).trans (State.withholdResult_grows ..)
    · simpa [State.joinCommitList] using evaluate_grows ..
  · exact EQ.Grows.refl _
  · exact EQ.Grows.refl _

theorem State.completeAll_grows (s : State) (l : List (Fin 64)) (p f : Bool) : EQ.Grows s.evq (s.completeAll l p f).evq := by
  unfold State.completeAll
  induction l generalizing s with
  | nil => exact EQ.Grows.refl _
  | cons x xs ih => exact (s.complete_grows x p f).trans (ih (s.complete x p f))

theorem State.completeIfFull_grows (s : State) (w : Fin 16) (slot : Nat) :
    EQ.Grows s.evq (s.completeIfFull w slot).evq := by
  unfold State.completeIfFull
  repeat' split
  all_goals first | exact State.complete_grows .. | exact EQ.Grows.refl _

theorem State.completeFull_grows (s : State) (w : Fin 16) (l : List (Nat × BitVec 48)) :
    EQ.Grows s.evq (s.completeFull w l).evq := by
  unfold State.completeFull
  induction l generalizing s with
  | nil => exact EQ.Grows.refl _
  | cons x xs ih => exact (s.completeIfFull_grows w x.1).trans (ih (s.completeIfFull w x.1))

theorem State.absorb_grows (s : State) (w : Fin 16) (l : List (Nat × BitVec 48)) :
    EQ.Grows s.evq (s.absorb w l).evq := by
  unfold State.absorb
  exact .after (by simp) (State.completeFull_grows ..)

theorem State.flushLeave_grows (s : State) (w : Fin 16) (mark entered : Bool) :
    EQ.Grows s.evq (s.flushLeave w mark entered).evq := by
  unfold State.flushLeave
  dsimp only
  repeat' split
  all_goals first | exact EQ.Grows.refl _ | exact State.record_grows ..

theorem State.keepDiscard_grows (s : State) (i : Fin 64) (c : Completed) : EQ.Grows s.evq (s.keepDiscard i c).evq := by
  unfold State.keepDiscard
  dsimp only
  exact (EQ.Grows.after (by simp) (State.record_grows ..)).trans (State.flushLeave_grows ..)

theorem State.keepTest_grows (s : State) : EQ.Grows s.evq s.keepTest.evq := by
  unfold State.keepTest
  split
  · exact EQ.Grows.refl _
  · rename_i i rest _
    repeat' split
    · exact State.keepDiscard_grows (s.setCommitList rest) i _
    all_goals exact EQ.Grows.refl _

theorem keepTests_grows (n : Nat) (s : State) : EQ.Grows s.evq (keepTests n s).evq := by
  induction n generalizing s with
  | zero => exact EQ.Grows.refl _
  | succ n ih => exact s.keepTest_grows.trans (ih _)

theorem State.keepRun_grows (s : State) : EQ.Grows s.evq s.keepRun.evq := keepTests_grows _ s

theorem State.grantCommit_grows (s : State) (i : Fin 64) (c : Completed) : EQ.Grows s.evq (s.grantCommit i c).evq := by
  unfold State.grantCommit
  dsimp only
  split
  · exact (EQ.Grows.after (by simp) (State.record_grows ..)).trans (State.flushLeave_grows ..)
  · exact .after (by simp) (State.flushLeave_grows ..)

theorem State.commitError_grows (s : State) (l : CommitLink) (aux : Nat) : EQ.Grows s.evq (s.commitError l aux).evq := by
  simpa [State.commitError] using s.record_grows .commitError _ _ _ _

theorem issuePointsFuel_grows (n : Nat) (s : State) : EQ.Grows s.evq (issuePointsFuel n s).evq := by
  induction n generalizing s with
  | zero => exact EQ.Grows.refl _
  | succ n ih =>
    unfold issuePointsFuel
    repeat' split
    all_goals first
      | exact EQ.Grows.refl _
      | exact (State.commitError_grows (s.setQueue (dropOldestWaiting s.eg.queue)) _ 2).trans (ih _)

theorem State.issuePoints_grows (s : State) : EQ.Grows s.evq s.issuePoints.evq := issuePointsFuel_grows _ s

theorem State.completeEntry_grows (s : State) (e : EgressEntry) (st : LinkStatus) (d : Lanes) :
    EQ.Grows s.evq (s.completeEntry e st d).evq := by
  unfold State.completeEntry
  dsimp only
  repeat' split
  all_goals first | exact EQ.Grows.refl _ | exact .after (by simp) (State.commitError_grows ..)

theorem State.timeoutEntry_grows (s : State) (e : EgressEntry) : EQ.Grows s.evq (s.timeoutEntry e).evq := by
  unfold State.timeoutEntry
  dsimp only
  split
  all_goals simp only [State.rolReady_evq, State.commitFailure_frame]
  all_goals exact .after (by simp) (State.record_grows ..)

theorem startTimerFuel_grows (n : Nat) (s : State) : EQ.Grows s.evq (startTimerFuel n s).evq := by
  induction n generalizing s with
  | zero => exact EQ.Grows.refl _
  | succ n ih =>
    unfold startTimerFuel
    repeat' split
    all_goals first | exact EQ.Grows.refl _ | exact (s.timeoutEntry_grows _).trans (ih _)

theorem State.startTimer_grows (s : State) : EQ.Grows s.evq s.startTimer.evq := startTimerFuel_grows _ s

theorem State.applyHead_grows (s : State) (p : Program) (rest : List Program) (route : Nat) :
    EQ.Grows s.evq (s.applyHead p rest route).evq := by
  unfold State.applyHead
  split
  · unfold State.rejectProgram
    dsimp only
    simp only [State.setStage_evq, State.setDrainTimer_evq, State.setWinState_evq]
    exact State.record_grows ..
  · unfold State.applyProgram
    dsimp only
    simp only [State.setStage_evq]
    exact .after (by simp) (State.record_grows ..)

theorem State.flushDiscard_grows (s : State) (w : Fin 16) (n : Nat) : EQ.Grows s.evq (s.flushDiscard w n).evq := by
  unfold State.flushDiscard
  dsimp only
  repeat' split
  all_goals first | exact EQ.Grows.refl _ | exact State.record_grows ..

theorem State.cutOver_grows (s : State) (w : Fin 16) : EQ.Grows s.evq (s.cutOver w).evq := by
  unfold State.cutOver
  dsimp only
  refine ((?_ : EQ.Grows _ _).trans (State.flushDiscard_grows ..)).trans (State.keepRun_grows _)
  refine EQ.Grows.trans (EQ.Grows.of_eq ?_) (State.record_grows ..)
  simp

theorem processHeads_grows (l : List Program) (s : State) : EQ.Grows s.evq (processHeads l s).evq := by
  induction l generalizing s with
  | nil => exact EQ.Grows.refl _
  | cons p rest ih =>
    unfold processHeads
    dsimp only
    repeat' split
    · exact (State.applyHead_grows (s.setStage (p :: rest)) ..).trans (ih _)
    · exact EQ.Grows.refl _
    · exact ((State.cutOver_grows (s.setStage (p :: rest)) _).trans (State.applyHead_grows ..)).trans (ih _)

theorem State.finishDrain_grows (s : State) : EQ.Grows s.evq s.finishDrain.evq := by
  unfold State.finishDrain
  repeat' split
  all_goals first
    | exact EQ.Grows.refl _
    | exact (State.applyHead_grows (s.setDrainTimer none) ..).trans (processHeads_grows ..)

theorem State.afterPool_grows (s : State) : EQ.Grows s.evq s.afterPool.evq :=
  s.keepRun_grows.trans (State.finishDrain_grows _)

theorem State.refuse_grows (s : State) (r : Request) (link : Nat) (k : EventKind) (d : Option Decoded) (n : Nat) :
    EQ.Grows s.evq (s.refuse r link k d n).evq := State.record_grows ..

theorem State.spill_grows (s : State) (r : Request) (link : Nat) (w : Fin 16) (f k cause : Nat) :
    EQ.Grows s.evq (s.spill r link w f k cause).evq :=
  State.record_grows (s.count w (fun c => { c with spilled := c.spilled + 1 })) ..

theorem State.takeSamples_grows (s : State) (r : Request) (link : Nat) (d : Decoded) (kept : Option Timer) :
    EQ.Grows s.evq (s.takeSamples r link d kept).evq := by
  unfold State.takeSamples
  dsimp only
  split
  · exact (State.absorb_grows ((s.setIntake .opened).rolReady link .ok []) ..).trans (State.afterPool_grows _)
  · exact EQ.Grows.refl _
  · exact EQ.Grows.refl _
  · exact State.spill_grows ..

theorem State.classify_grows (s : State) (r : Request) (link : Nat) (kept : Option Timer) :
    EQ.Grows s.evq (s.classify r link kept).evq := by
  unfold State.classify
  split
  · exact State.refuse_grows ..
  · exact State.refuse_grows ..
  · exact State.refuse_grows ..
  · exact State.takeSamples_grows ..
  · exact EQ.Grows.refl _

theorem State.release_grows (s : State) : EQ.Grows s.evq s.release.evq := by
  unfold State.release
  split
  · exact EQ.Grows.refl _
  · exact EQ.Grows.refl _
  · exact .after (by simp) (State.classify_grows ..)

theorem State.settle_grows (before s : State) : EQ.Grows s.evq (State.settle before s).evq := by
  unfold State.settle
  dsimp only
  split
  · exact (s.keepRun_grows.trans (State.finishDrain_grows _)).trans (State.release_grows _)
  · exact s.keepRun_grows

end Sys2Proof.Machine
end

