-- ==== Sys2Proof/Laws/Steps.lean ====
section
/-! SUPPORT. The shared operations that repeat, as induction principles (what each repetition keeps, the whole keeps), and
what a completion, a discard and the queue updates do. -/

namespace Sys2Proof.Machine

/-! ### Repetitions -/

/-- What a KEEP discard of the head keeps, any number of tests keep (R105). -/
theorem keepTests_induct (P : State → Prop)
    (discard : ∀ s i rest c, s.ae.commitList = i :: rest → s.ctx i = .committing c → s.keepHit c = true → P s →
      P ((s.setCommitList rest).keepDiscard i c)) (n : Nat) (s : State) (h : P s) : P (keepTests n s) := by
  induction n generalizing s with
  | zero => exact h
  | succ n ih =>
    refine ih _ ?_
    unfold State.keepTest
    split
    · exact h
    · rename_i i rest hl
      repeat' split
      · rename_i c hc hk
        exact discard s i rest c hl hc hk h
      all_goals exact h

/-- What a KEEP discard of the head keeps, the KEEP run keeps (R105). -/
theorem State.keepRun_induct (P : State → Prop)
    (discard : ∀ s i rest c, s.ae.commitList = i :: rest → s.ctx i = .committing c → s.keepHit c = true → P s →
      P ((s.setCommitList rest).keepDiscard i c)) (s : State) (h : P s) : P s.keepRun := by
  exact keepTests_induct P discard _ s h

/-- What one completion keeps, several keep (R43, R58, R60). -/
theorem State.completeAll_induct (P : State → Prop) (p f : Bool) (one : ∀ s i, P s → P (s.complete i p f))
    (l : List (Fin 64)) (s : State) (h : P s) : P (s.completeAll l p f) := by
  unfold State.completeAll
  induction l generalizing s with
  | nil => exact h
  | cons i l ih => exact ih _ (one s i h)

/-- What the end of one unreachable entry keeps, the issue points keep (R125). -/
theorem State.issuePoints_induct (P : State → Prop)
    (one : ∀ s e l, s.oldestWaiting = some e → e.work = .commit l → l.unreachable = true → P s →
      P ((s.setQueue (dropOldestWaiting s.eg.queue)).commitError l 2)) (s : State) (h : P s) : P s.issuePoints := by
  suffices H : ∀ n s, P s → P (issuePointsFuel n s) from H _ s h
  intro n
  induction n with
  | zero => intro s h; exact h
  | succ n ih =>
    intro s h
    unfold issuePointsFuel
    repeat' split
    · exact h
    · rename_i he _ _ hw hu
      exact ih _ (one s _ _ he hw hu h)
    all_goals exact h

/-- What a timeout and a setting of the response timer keep, its start keeps (R127). -/
theorem State.startTimer_induct (P : State → Prop) (out : ∀ s e, s.oldestIssued = some e → P s → P (s.timeoutEntry e))
    (set : ∀ s t, P s → P (s.setRespTimer t)) (s : State) (h : P s) : P s.startTimer := by
  suffices H : ∀ n s, P s → P (startTimerFuel n s) from H _ s h
  intro n
  induction n with
  | zero => intro s h; exact set s none h
  | succ n ih =>
    intro s h
    unfold startTimerFuel
    repeat' split
    · exact set s none h
    · rename_i e he _
      exact ih _ (out s e he h)
    · exact set s _ h

@[simp] theorem State.applyHead_stage (s : State) (p : Program) (rest : List Program) (route : Nat) :
    (s.applyHead p rest route).pa.stage = rest := by
  unfold State.applyHead
  split <;> simp [State.rejectProgram, State.applyProgram]

/-- What an apply to a window without contexts, the start of a drain and a cut-over with its apply keep, head processing
keeps (R140). -/
theorem processHeads_induct (P : State → Prop)
    (apply : ∀ s p rest, s.pa.stage = p :: rest →
      ((s.win p.window).decodes = false ∨ s.holdsContexts p.window = false) → P s → P (s.applyHead p rest 1))
    (drain : ∀ s p rest, s.pa.stage = p :: rest → (s.win p.window).decodes = true → s.holdsContexts p.window = true →
      P s → P (s.startDrain p.window))
    (cut : ∀ s p rest, s.pa.stage = p :: rest → (s.win p.window).decodes = true → s.holdsContexts p.window = true →
      P s → P ((s.cutOver p.window).applyHead p rest 4))
    (l : List Program) (s : State) (h : P (s.setStage l)) : P (processHeads l s) := by
  have same : ∀ t : State, t.setStage t.pa.stage = t := fun _ => rfl
  induction l generalizing s with
  | nil => exact h
  | cons p rest ih =>
    unfold processHeads
    dsimp only
    have next : ∀ t : State, t.pa.stage = rest → P t → P (t.setStage rest) := by
      intro t ht hp
      rw [← ht, same]
      exact hp
    split
    · rename_i hc
      refine ih _ (next _ (by simp) (apply _ p rest rfl ?_ h))
      simpa using hc
    · rename_i hc
      have hd : ((s.setStage (p :: rest)).win p.window).decodes = true ∧
          (s.setStage (p :: rest)).holdsContexts p.window = true := by simpa using hc
      split
      · exact drain _ p rest rfl hd.1 hd.2 h
      · exact ih _ (next _ (by simp) (cut _ p rest rfl hd.1 hd.2 h))

/-! ### A completion and a discard -/

/-- A completion of a context that is not OPEN does nothing. -/
theorem State.complete_not_open (s : State) (i : Fin 64) (p f : Bool) (h : (s.ctx i).isOpen = false) :
    s.complete i p f = s := by
  unfold State.complete
  split
  · rename_i a ha; simp [ha, Context.isOpen] at h
  · rfl
  · rfl

/-- A completion of an OPEN context (R44, R45): withheld, it is FREE and its count dropped; else it is COMMITTING, at the
tail of the Commit List, with the record the Result Former and the monitors made. -/
theorem State.complete_open (s : State) (i : Fin 64) (a : Accum) (p f : Bool) (h : s.ctx i = .opened a) (e : Eval)
    (he : e = evaluate s a.window a.slot (formResult (s.applying a.window a.slot) (s.win a.window).fields a p)) :
    ((∃ m, e.withhold = some m) ∧ (s.complete i p f).ae = { s.ae with pool := s.ae.pool.set i.val .free } ∧
      ∀ v, ((s.complete i p f).win v).counters = if a.window = v then
        { (s.win v).counters with
          dropped := (s.win v).counters.dropped + BitVec.ofNat 32 a.count
          withheld := (s.win v).counters.withheld + 1 } else (s.win v).counters) ∨
    (e.withhold = none ∧
      (s.complete i p f).ae = { s.ae with
        pool := s.ae.pool.set i.val (.committing (completedOf (s.win a.window).fields a p e.r f))
        commitList := s.ae.commitList ++ [i] } ∧
      (s.complete i p f).wt = s.wt) := by
  subst he
  unfold State.complete
  rw [h]
  dsimp only
  split
  · rename_i m hm
    refine Or.inl ⟨⟨m, hm⟩, ?_, ?_⟩
    · simp [State.withholdResult]
    · intro v
      simp only [State.withholdResult, State.drop, State.count, State.win_setWin, State.setCtx_win, State.record_win]
      have hw : ∀ x, (evaluate s a.window a.slot
          (formResult (s.applying a.window a.slot) (s.win a.window).fields a p)).s.win x = s.win x := by
        intro x; simp [State.win]
      by_cases hv : a.window = v
      · subst hv
        simp [hw]
      · simp [hv, hw]
  · rename_i hm
    refine Or.inr ⟨hm, ?_, ?_⟩
    · simp [State.joinCommitList]
    · simp [State.joinCommitList]

/-! ### The Egress Queue -/

@[simp] theorem EgressEntry.staleWhere_isIssued (p : Nat → Bool) (e : EgressEntry) : (e.staleWhere p).isIssued = e.isIssued := by
  unfold EgressEntry.staleWhere
  split <;> rfl

@[simp] theorem EgressEntry.staleWhere_isUnreachable (p : Nat → Bool) (e : EgressEntry) :
    (e.staleWhere p).isUnreachable = e.isUnreachable := by
  unfold EgressEntry.staleWhere
  split
  · rename_i l h; simp [EgressEntry.isUnreachable, h]
  · rfl
  · rfl

/-- An issue changes no number of entries (R124). -/
@[simp] theorem length_issueOldest (now : Time) (q : List EgressEntry) : (issueOldest now q).length = q.length := by
  induction q with
  | nil => rfl
  | cons e q ih => unfold issueOldest; split <;> simp [ih]

/-- An issue with a WAITING entry in the queue makes one more ISSUED (R124). -/
theorem countP_issueOldest (now : Time) (q : List EgressEntry) (h : ∃ e ∈ q, e.isIssued = false) :
    (issueOldest now q).countP EgressEntry.isIssued = q.countP EgressEntry.isIssued + 1 := by
  induction q with
  | nil => simp at h
  | cons e q ih =>
    unfold issueOldest
    split
    · rename_i he
      have : ∃ e ∈ q, e.isIssued = false := by
        obtain ⟨x, hx, hxi⟩ := h
        rcases List.mem_cons.1 hx with rfl | hx
        · simp [he] at hxi
        · exact ⟨x, hx, hxi⟩
      simp [he, ih this]
    · rename_i he
      have he' : e.isIssued = false := by simpa using he
      rw [List.countP_cons_of_pos (by rfl), List.countP_cons_of_neg (by simp [he'])]

/-- The removal of the oldest ISSUED entry, when there is one (R119). -/
theorem countP_dropOldestIssued (q : List EgressEntry) (h : ∃ e ∈ q, e.isIssued = true) :
    (dropOldestIssued q).countP EgressEntry.isIssued + 1 = q.countP EgressEntry.isIssued := by
  induction q with
  | nil => simp at h
  | cons e q ih =>
    unfold dropOldestIssued
    by_cases he : e.isIssued = true
    · simp [he]
    · have : ∃ e ∈ q, e.isIssued = true := by
        obtain ⟨x, hx, hxi⟩ := h
        rcases List.mem_cons.1 hx with rfl | hx
        · exact absurd hxi he
        · exact ⟨x, hx, hxi⟩
      have := ih this
      simp only [dropOldestIssued] at this
      simp [he, this]

/-- The removal of the oldest WAITING entry leaves every ISSUED one (R125). -/
theorem countP_dropOldestWaiting (q : List EgressEntry) :
    (dropOldestWaiting q).countP EgressEntry.isIssued = q.countP EgressEntry.isIssued := by
  induction q with
  | nil => rfl
  | cons e q ih =>
    simp only [dropOldestWaiting] at ih ⊢
    by_cases he : e.isIssued = true
    · simp [he, ih]
    · simp [he]

/-- Behind ISSUED entries, the first WAITING one is the oldest. -/
theorem find?_waiting (pre post : List EgressEntry) (e : EgressEntry) (h : ∀ x ∈ pre, x.isIssued = true)
    (he : e.isIssued = false) : (pre ++ e :: post).find? (fun x => !x.isIssued) = some e := by
  induction pre with
  | nil => simp [he]
  | cons x xs ih =>
    rw [List.cons_append, List.find?_cons_of_neg (by simp [h x (by simp)])]
    exact ih fun y hy => h y (by simp [hy])

/-- Behind ISSUED entries, the first WAITING one is the one an issue marks (R124). -/
theorem issueOldest_append (now : Time) (pre post : List EgressEntry) (e : EgressEntry) (h : ∀ x ∈ pre, x.isIssued = true)
    (he : e.isIssued = false) :
    issueOldest now (pre ++ e :: post) = pre ++ { e with issued := some now } :: post := by
  induction pre with
  | nil => simp [issueOldest, he]
  | cons x xs ih =>
    simp only [List.cons_append, issueOldest, h x (by simp), if_true, ih fun y hy => h y (by simp [hy])]

/-- The response timer starts when no ISSUED entry's limit has passed (R127). -/
theorem State.startTimer_of_young (s : State)
    (h : ∀ x ∈ s.eg.queue, x.isIssued = true → x.age s.mp.timebase < s.mp.responseLimit.toNat) :
    s.startTimer = s.setRespTimer (if s.eg.queue.any EgressEntry.isIssued then some s.mp.responseLimit else none) := by
  unfold State.startTimer startTimerFuel
  cases hf : s.oldestIssued with
  | none =>
    have ha : s.eg.queue.any EgressEntry.isIssued = false := by
      simpa [State.oldestIssued, List.find?_eq_none] using hf
    simp [ha]
  | some e =>
    have hm := List.mem_of_find?_eq_some hf
    have hi : e.isIssued = true := List.find?_some (p := EgressEntry.isIssued) hf
    have ha : s.eg.queue.any EgressEntry.isIssued = true := List.any_eq_true.2 ⟨e, hm, hi⟩
    have hl := h e hm hi
    simp only [ha, if_true]
    rw [if_neg (by omega)]

/-- What becomes READY: the WAITING entry of the link (R3, R12). -/
theorem RolEntry.makeReady_eq (e : RolEntry) (link : Nat) (st : LinkStatus) (d : List Byte) :
    e.makeReady link st d = if e.link = link ∧ e.state = .waiting then { e with state := .ready st d } else e := by
  unfold RolEntry.makeReady
  cases e.state <;> by_cases h : e.link = link <;> simp [h]

end Sys2Proof.Machine
end

