-- ==== Sys2Proof/Laws/Heads.lean ====
section
/-! SUPPORT. When the end of an event changes nothing: a head that waits, a request that is not held, a Stage Queue that
is empty; and the lookup of an OPEN context. -/

namespace Sys2Proof.Machine

/-- With no request held there is nothing to release (R48). -/
theorem State.release_of_noHeld {s : State} (h : s.NoHeld) : s.release = s := by
  unfold State.release
  split
  · rfl
  · rfl
  · rename_i x hx
    exact absurd hx (h x)

/-- A head that waits is left where it is by the test (R105). -/
theorem State.keepTest_of_headWaits {s : State} (h : HeadWaits s) : s.keepTest = s := by
  unfold State.keepTest
  rcases h with h | ⟨p, hp⟩
  · rw [h]
  · unfold State.commitCandidate at hp
    cases hl : s.ae.commitList with
    | nil => rfl
    | cons i rest =>
      rw [hl] at hp
      cases hc : s.ctx i with
      | free => simp only [hc]
      | opened a => simp only [hc]
      | committing c =>
        dsimp only at hp
        rw [hc] at hp
        dsimp only at hp
        split at hp
        · cases hp
        · rename_i hk
          simp [hc, hk]

/-- A head that waits stays, however often it is tested (R105). -/
theorem keepTests_of_headWaits (n : Nat) {s : State} (h : HeadWaits s) : keepTests n s = s := by
  induction n with
  | zero => rfl
  | succ n ih => rw [keepTests, State.keepTest_of_headWaits h, ih]

/-- A head that waits ends the KEEP run at once (R105). -/
theorem State.keepRun_of_headWaits {s : State} (h : HeadWaits s) : s.keepRun = s := keepTests_of_headWaits _ h

/-- With an empty Stage Queue no drain ends (R144). -/
theorem State.finishDrain_of_empty {s : State} (h : s.pa.stage = []) : s.finishDrain = s := by
  unfold State.finishDrain
  rw [h]

/-- The end of an event that left a waiting head, no held request and no staged program (R48). -/
theorem State.settle_of_quiet {before s : State} (h : HeadWaits s) (hs : s.pa.stage = []) (hn : s.NoHeld) :
    State.settle before s = s := by
  simp only [State.settle, State.keepRun_of_headWaits h, State.finishDrain_of_empty hs, State.release_of_noHeld hn,
    ite_self]

/-- The commit candidate depends on the Commit List, its head's context, the windows' shape and the Slot Status Memory. -/
theorem State.commitCandidate_congr {s t : State} (hl : t.ae.commitList = s.ae.commitList)
    (hc : ∀ i ∈ s.ae.commitList.head?, t.ctx i = s.ctx i) (hs : t.shape = s.shape) (ht : t.ct = s.ct) :
    t.commitCandidate = s.commitCandidate := by
  have hf : ∀ w, (t.win w).fields = (s.win w).fields := fun w => congrArg Prod.fst (congrFun hs w)
  have hk : t.keepHit = s.keepHit := by
    funext c
    simp only [State.keepHit, State.statusOf, State.slotIndex, State.slotAt, ht, hf]
  unfold State.commitCandidate
  rw [hl]
  cases h : s.ae.commitList with
  | nil => rfl
  | cons i rest => simp only [hc i (by simp [h]), hk]

/-- A waiting head goes on waiting when nothing the commit candidate depends on changes. -/
theorem HeadWaits.congr {s t : State} (h : HeadWaits s) (hl : t.ae.commitList = s.ae.commitList)
    (hc : ∀ i ∈ s.ae.commitList.head?, t.ctx i = s.ctx i) (hs : t.shape = s.shape) (ht : t.ct = s.ct) : HeadWaits t := by
  rcases h with h | ⟨p, hp⟩
  · exact Or.inl (hl.trans h)
  · exact Or.inr ⟨p, (State.commitCandidate_congr hl hc hs ht).trans hp⟩

/-- A commit candidate is the COMMITTING head of the Commit List. -/
theorem State.commitCandidate_some {s : State} {i : Fin 64} {c : Completed} (h : s.commitCandidate = some (i, c)) :
    ∃ rest, s.ae.commitList = i :: rest ∧ s.ctx i = .committing c ∧ s.keepHit c = false := by
  unfold State.commitCandidate at h
  cases hl : s.ae.commitList with
  | nil => simp [hl] at h
  | cons j rest =>
    rw [hl] at h
    dsimp only at h
    cases hc : s.ctx j with
    | free => simp [hc] at h
    | opened a => simp [hc] at h
    | committing d =>
      rw [hc] at h
      dsimp only at h
      split at h
      · cases h
      · rename_i hk
        obtain ⟨rfl, rfl⟩ : j = i ∧ d = c := by simpa using h
        exact ⟨rest, rfl, hc, by simpa using hk⟩

/-- An OPEN context is found by its key (R39, R40). -/
theorem State.lookup_of_open {s : State} (h : OneOpenPerKey s) {i : Fin 64} {a : Accum} (hc : s.ctx i = .opened a) :
    s.lookup a.window a.slot = some i := by
  have hk : (s.ctx i).isKey a.window a.slot = true := by simp [hc, Context.isKey]
  unfold State.lookup
  cases hf : (List.finRange 64).find? (fun i => (s.ctx i).isKey a.window a.slot) with
  | none => exact absurd hk (List.find?_eq_none.1 hf i (List.mem_finRange i))
  | some j =>
    have hj : (s.ctx j).isKey a.window a.slot = true := List.find?_some (p := fun i => (s.ctx i).isKey a.window a.slot) hf
    rw [h i j _ _ hk hj]

/-- What a lookup finds is an OPEN context of the key (R40). -/
theorem State.lookup_some {s : State} {w : Fin 16} {slot : Nat} {i : Fin 64} (h : s.lookup w slot = some i) :
    ∃ a, s.ctx i = .opened a ∧ a.window = w ∧ a.slot = slot := by
  have hk : (s.ctx i).isKey w slot = true := List.find?_some (p := fun i => (s.ctx i).isKey w slot) h
  cases hc : s.ctx i with
  | free => simp [hc, Context.isKey] at hk
  | committing c => simp [hc, Context.isKey] at hk
  | opened a =>
    simp only [hc, Context.isKey, decide_eq_true_eq] at hk
    exact ⟨a, rfl, hk.1, hk.2⟩

/-- No lookup: no OPEN context has the key (R40). -/
theorem State.lookup_none {s : State} {w : Fin 16} {slot : Nat} (h : s.lookup w slot = none) (i : Fin 64) :
    (s.ctx i).isKey w slot = false := by
  simpa using List.find?_eq_none.1 h i (List.mem_finRange i)

end Sys2Proof.Machine
end

