-- ==== Sys2Proof/Laws/PerInstr.lean ====
section
/-! SUPPORT. The family Row: when a command of each row is well formed, said of the complete bytes on MDI (R172, R175). -/

namespace Sys2Proof.Laws

open Sys2Proof.Machine

/-- The first three lines of R175 let the frame through: at most 40 arguments, all of them and the CRC-8 complete, the
CRC-8 right, and the code one of R191's. Bytes after the CRC-8 do not count. -/
def framed (code : Byte) (mdi : List Bool) : Prop :=
  ∃ (len : Byte) (args rest : List Byte), completeBytes mdi = len :: args ++ crc8 (code :: len :: args) :: rest ∧
    args.length = len.toNat ∧ len.toNat ≤ 40 ∧ (argLength code).isSome = true

namespace Row

/-- What makes a command of the row well formed. -/
def Statement : Instr → Prop
  | .ingressRequest k a z d be => (Instr.ingressRequest k a z d be).wf = true
  | .holdTimerExpiry => Instr.holdTimerExpiry.wf = true
  | .idleExpiry w slot => (Instr.idleExpiry w slot).wf = true ↔ slot < 256
  | .commitEntry => Instr.commitEntry.wf = true
  | .ingressEntry => Instr.ingressEntry.wf = true
  | .issue r => (Instr.issue r).wf = true
  | .egressResponse st d => (Instr.egressResponse st d).wf = true
  | .responseTimeout => Instr.responseTimeout.wf = true
  | .deliverResponse => Instr.deliverResponse.wf = true
  | .drainTimerExpiry => Instr.drainTimerExpiry.wf = true
  | .ident mdi => (Instr.ident mdi).wf = true ↔ framed 0x01 mdi
  | .readTime mdi => (Instr.readTime mdi).wf = true ↔ framed 0x02 mdi
  | .stage mdi => (Instr.stage mdi).wf = true ↔ framed 0x10 mdi
  | .withdraw mdi => (Instr.withdraw mdi).wf = true ↔ framed 0x11 mdi
  | .flush mdi => (Instr.flush mdi).wf = true ↔ framed 0x12 mdi
  | .queryWindow mdi => (Instr.queryWindow mdi).wf = true ↔ framed 0x13 mdi
  | .queryPool mdi => (Instr.queryPool mdi).wf = true ↔ framed 0x14 mdi
  | .setCorrection mdi => (Instr.setCorrection mdi).wf = true ↔ framed 0x20 mdi
  | .setMonitor mdi => (Instr.setMonitor mdi).wf = true ↔ framed 0x21 mdi
  | .releaseMonitor mdi => (Instr.releaseMonitor mdi).wf = true ↔ framed 0x22 mdi
  | .popEvent mdi => (Instr.popEvent mdi).wf = true ↔ framed 0x30 mdi
  | .eventStatus mdi => (Instr.eventStatus mdi).wf = true ↔ framed 0x31 mdi
  | .setTimers mdi => (Instr.setTimers mdi).wf = true ↔ framed 0x40 mdi
  | .engineReset mdi => (Instr.engineReset mdi).wf = true ↔ framed 0x41 mdi
  | .unknownCommand code mdi => (Instr.unknownCommand code mdi).wf = true ↔ code ≠ 0 ∧ ¬ framed code mdi
  | .responseRead p => (Instr.responseRead p).wf = true ↔ ∀ mdi, p = .short mdi → mdi.length < 8
  | .timebaseTick => Instr.timebaseTick.wf = true
  | .powerOnReset n => (Instr.powerOnReset n).wf = true
  | .rstAssert low => (Instr.rstAssert low).wf = true ↔ 1 ≤ low
  | .resetRelease => Instr.resetRelease.wf = true

end Row

/-- A frame is let through exactly when it is framed. -/
theorem frameTaken_iff (code : Byte) (mdi : List Bool) : frameTaken code mdi = true ↔ framed code mdi := by
  have key : frameTaken code mdi = true ↔ ∃ v, judge (keptBytes code mdi) = v ∧ (v = .badArg ∨ ∃ a, v = .run a) := by
    unfold frameTaken
    cases judge (keptBytes code mdi) <;> simp
  rw [key]
  unfold keptBytes framed
  cases hc : completeBytes mdi with
  | nil => simp [judge]
  | cons len rest =>
    simp only [Config.maxArgs, List.take_succ_cons, judge]
    by_cases hl : 40 < len.toNat
    · simp only [hl, true_or, if_true]
      constructor
      · rintro ⟨v, rfl, h | ⟨a, h⟩⟩ <;> simp at h
      · rintro ⟨l, a, r, h, _, h2, _⟩
        simp only [List.cons_append, List.cons.injEq] at h
        rw [← h.1] at h2
        omega
    · by_cases hr : rest.length < len.toNat + 1
      · have hs : (List.take 41 rest).length < len.toNat + 1 := by simp; omega
        simp only [hs, or_true, if_true]
        constructor
        · rintro ⟨v, rfl, h | ⟨a, h⟩⟩ <;> simp at h
        · rintro ⟨l, a, r, h, h1, h2, _⟩
          simp only [List.cons_append, List.cons.injEq] at h
          have h3 := congrArg List.length h.2
          simp at h3
          rw [← h.1] at h1
          omega
      · have hs : ¬ (List.take 41 rest).length < len.toNat + 1 := by simp; omega
        have hd : (List.take 41 rest).getD len.toNat 0 = rest.getD len.toNat 0 := by
          simp only [List.getD_eq_getElem?_getD, List.getElem?_take]
          rw [if_pos (by omega)]
        have ht : List.take len.toNat (List.take 41 rest) = List.take len.toNat rest := by
          rw [List.take_take]
          congr 1
          omega
        simp only [hl, hs, or_self, if_false, hd, ht]
        have hg : rest.getD len.toNat 0 = rest[len.toNat]'(by omega) := by
          rw [List.getD_eq_getElem?_getD, List.getElem?_eq_getElem (by omega)]
          rfl
        constructor
        · rintro ⟨v, hv, hw⟩
          by_cases hcrc : rest.getD len.toNat 0 = crc8 (code :: len :: rest.take len.toNat)
          · refine ⟨len, rest.take len.toNat, rest.drop (len.toNat + 1), ?_, by simp; omega, by omega, ?_⟩
            · rw [← hcrc, hg]
              simp
            · cases ha : argLength code with
              | none =>
                simp only [ha, ne_eq, hcrc, not_true_eq_false, if_false] at hv
                subst hv
                rcases hw with h | ⟨a, h⟩ <;> cases h
              | some n => rfl
          · simp only [ne_eq, hcrc, not_false_eq_true, if_true] at hv
            rcases hw with h | ⟨a, h⟩ <;> simp [h] at hv
        · rintro ⟨l, a, r, h, h1, h2, h3⟩
          simp only [List.cons_append, List.cons.injEq] at h
          obtain ⟨rfl, h⟩ := h
          have ha : rest.take len.toNat = a := by rw [h, ← h1]; simp
          have hb : rest.getD len.toNat 0 = crc8 (code :: len :: a) := by rw [h, ← h1]; simp [List.getD_eq_getElem?_getD]
          rw [ha, hb]
          obtain ⟨n, hn⟩ := Option.isSome_iff_exists.1 h3
          simp only [hn, ne_eq, not_true_eq_false, if_false]
          split
          · exact ⟨_, rfl, Or.inl rfl⟩
          · exact ⟨_, rfl, Or.inr ⟨_, rfl⟩⟩

namespace Row

theorem ingressRequest (k : LinkKind) (a : Addr) (z : BitVec 7) (d : Lanes) (be : BitVec 64) :
    Statement (.ingressRequest k a z d be) := rfl
theorem holdTimerExpiry : Statement .holdTimerExpiry := rfl
theorem idleExpiry (w : Fin 16) (slot : Nat) : Statement (.idleExpiry w slot) := by simp [Statement, Instr.wf]
theorem commitEntry : Statement .commitEntry := rfl
theorem ingressEntry : Statement .ingressEntry := rfl
theorem issue (r : Bool) : Statement (.issue r) := rfl
theorem egressResponse (st : LinkStatus) (d : Lanes) : Statement (.egressResponse st d) := rfl
theorem responseTimeout : Statement .responseTimeout := rfl
theorem deliverResponse : Statement .deliverResponse := rfl
theorem drainTimerExpiry : Statement .drainTimerExpiry := rfl
theorem ident (mdi : List Bool) : Statement (.ident mdi) := frameTaken_iff _ _
theorem readTime (mdi : List Bool) : Statement (.readTime mdi) := frameTaken_iff _ _
theorem stage (mdi : List Bool) : Statement (.stage mdi) := frameTaken_iff _ _
theorem withdraw (mdi : List Bool) : Statement (.withdraw mdi) := frameTaken_iff _ _
theorem flush (mdi : List Bool) : Statement (.flush mdi) := frameTaken_iff _ _
theorem queryWindow (mdi : List Bool) : Statement (.queryWindow mdi) := frameTaken_iff _ _
theorem queryPool (mdi : List Bool) : Statement (.queryPool mdi) := frameTaken_iff _ _
theorem setCorrection (mdi : List Bool) : Statement (.setCorrection mdi) := frameTaken_iff _ _
theorem setMonitor (mdi : List Bool) : Statement (.setMonitor mdi) := frameTaken_iff _ _
theorem releaseMonitor (mdi : List Bool) : Statement (.releaseMonitor mdi) := frameTaken_iff _ _
theorem popEvent (mdi : List Bool) : Statement (.popEvent mdi) := frameTaken_iff _ _
theorem eventStatus (mdi : List Bool) : Statement (.eventStatus mdi) := frameTaken_iff _ _
theorem setTimers (mdi : List Bool) : Statement (.setTimers mdi) := frameTaken_iff _ _
theorem engineReset (mdi : List Bool) : Statement (.engineReset mdi) := frameTaken_iff _ _
theorem unknownCommand (code : Byte) (mdi : List Bool) : Statement (.unknownCommand code mdi) := by
  simp only [Statement, Instr.wf, ← frameTaken_iff, Bool.and_eq_true, bne_iff_ne, Bool.not_eq_true', Bool.not_eq_true]
theorem responseRead (p : ReadPeriod) : Statement (.responseRead p) := by
  cases p <;> simp [Statement, Instr.wf]
theorem timebaseTick : Statement .timebaseTick := rfl
theorem powerOnReset (n : Nat) : Statement (.powerOnReset n) := rfl
theorem rstAssert (low : Nat) : Statement (.rstAssert low) := by simp [Statement, Instr.wf]
theorem resetRelease : Statement .resetRelease := rfl

end Row

end Sys2Proof.Laws
end

