-- ==== Sys2Proof/Laws/Pins.lean ====
section
/-! SUPPORT. What the pins read, lane by lane and level by level (R200, R201). -/

namespace Sys2Proof

@[simp] theorem LinkKind.level_ofLevel (b : Bool) : (LinkKind.ofLevel b).level = b := by cases b <;> rfl

@[simp] theorem LinkStatus.level_ofLevel (b : Bool) : (LinkStatus.ofLevel b).level = b := by cases b <;> rfl

theorem LinkKind.level_eq (k : LinkKind) : k.level = decide (k = .write) := by cases k <;> rfl

theorem LinkStatus.level_eq (st : LinkStatus) : st.level = decide (st = .error) := by cases st <;> rfl

namespace Machine

/-- A lane of the data pins. -/
theorem getElem_toLanes (lane : Nat) (bytes : List Byte) (l : Nat) (h : l < 64) :
    (toLanes lane bytes)[l] = if lane ≤ l then bytes.getD (l - lane) 0 else 0 := by
  simp [toLanes]

/-- A lane of the byte enable pins. -/
theorem getLsbD_enableLanes (lane : Nat) (be : List Bool) (l : Nat) (h : l < 64) :
    (enableLanes lane be).getLsbD l = (decide (lane ≤ l) && be.getD (l - lane) false) := by
  simp [enableLanes, h]

/-- With IGR_VALID low the ingress response channel carries nothing (R200). -/
theorem State.igrPins_low (s : State) (h : s.pins.igrValid = false) : s.igrPins = none := by
  simp [State.igrPins, h]

/-- With EGQ_VALID low the egress request channel carries nothing (R200). -/
theorem State.egqPins_low (s : State) (h : s.egqValid = false) : s.egqPins = none := by
  simp [State.egqPins, h]

end Machine

end Sys2Proof
end

