-- ==== Sys2Proof/Laws/Port.lean ====
section
/-! SUPPORT. When a command acts (R198), and what a transaction does with each verdict on its frame (R175). -/

namespace Sys2Proof.Machine

/-- With no reset holding the part a command acts. -/
theorem State.active_running {s : State} (h : s.hold = .running) (f : State → State) : s.active f = f s := by
  simp [State.active, State.running, h]

/-- While a reset holds the part a command acts on nothing (R198). -/
theorem State.active_held {s : State} {n : Nat} (h : s.hold = .held n) (f : State → State) : s.active f = s := by
  simp [State.active, State.running, h]

/-- A port that listens takes a select period. -/
theorem State.selected_listening {s : State} (h : s.Listening) (f : State → State) : s.selected f = f s := by
  simp [State.selected, State.active_running h.1, h.2]

/-- A select period that a reset overtook is not taken, and its end is the rise of MCS# (R173, R197). -/
theorem State.selected_waiting {s : State} (hw : s.mcsLow = true) (f : State → State) :
    s.selected f = { s with mcsLow := false } := by
  simp [State.selected, hw, State.setMcsLow]

/-- While a reset holds the part a row of the port leaves MCS# high and does nothing else (R198). -/
theorem State.selected_held {s : State} {n : Nat} (h : s.hold = .held n) (f : State → State) :
    s.selected f = { s with mcsLow := false } := by
  cases hm : s.mcsLow with
  | true => exact State.selected_waiting hm f
  | false =>
    simp only [State.selected, hm, Bool.false_eq_true, if_false, State.active_held h]
    rw [← hm]

theorem State.store_receive (s : State) (code : Byte) (mdi : List Bool) (r : Reply) :
    (s.receive code mdi).floatMdo.store r = s.replied mdi r := rfl

/-- A frame that executes: the effect on the part that has received it, and its reply stored. -/
theorem State.transact_run (s : State) (code : Byte) (mdi : List Bool) (effect : List Byte → State → State × Reply)
    (args : List Byte) (h : Executes code mdi args) :
    s.transact code mdi effect =
      (effect args (s.receive code mdi).floatMdo).1.store (effect args (s.receive code mdi).floatMdo).2 := by
  simp [State.transact, Executes.eq_1 code mdi args ▸ h]

/-- A refused frame: the reply is stored and nothing else (R175). -/
theorem State.transact_refused (s : State) (code : Byte) (mdi : List Bool)
    (effect : List Byte → State → State × Reply) :
    (judge (keptBytes code mdi) = .badFrame → s.transact code mdi effect = s.replied mdi ⟨.badFrame, []⟩) ∧
    (judge (keptBytes code mdi) = .badCrc → s.transact code mdi effect = s.replied mdi ⟨.badCrc, []⟩) ∧
    (judge (keptBytes code mdi) = .badCmd → s.transact code mdi effect = s.replied mdi ⟨.badCmd, []⟩) ∧
    (judge (keptBytes code mdi) = .badArg → s.transact code mdi effect = s.replied mdi ⟨.badArg, []⟩) := by
  refine ⟨?_, ?_, ?_, ?_⟩ <;> intro h <;> simp [State.transact, h, State.store_receive, Reply.plain]

section
variable (s : State) (code : Byte) (mdi : List Bool)
@[simp] theorem State.receive_hold : (s.receive code mdi).hold = s.hold := rfl
@[simp] theorem State.receive_ig : (s.receive code mdi).ig = s.ig := rfl
@[simp] theorem State.receive_wt : (s.receive code mdi).wt = s.wt := rfl
@[simp] theorem State.receive_ae : (s.receive code mdi).ae = s.ae := rfl
@[simp] theorem State.receive_rf : (s.receive code mdi).rf = s.rf := rfl
@[simp] theorem State.receive_lm : (s.receive code mdi).lm = s.lm := rfl
@[simp] theorem State.receive_ct : (s.receive code mdi).ct = s.ct := rfl
@[simp] theorem State.receive_eg : (s.receive code mdi).eg = s.eg := rfl
@[simp] theorem State.receive_pa : (s.receive code mdi).pa = s.pa := rfl
@[simp] theorem State.receive_evq : (s.receive code mdi).evq = s.evq := rfl
@[simp] theorem State.receive_timebase : (s.receive code mdi).mp.timebase = s.mp.timebase := rfl
@[simp] theorem State.receive_holdLimit : (s.receive code mdi).mp.holdLimit = s.mp.holdLimit := rfl
@[simp] theorem State.receive_drainLimit : (s.receive code mdi).mp.drainLimit = s.mp.drainLimit := rfl
@[simp] theorem State.receive_responseLimit : (s.receive code mdi).mp.responseLimit = s.mp.responseLimit := rfl
@[simp] theorem State.receive_win : (s.receive code mdi).win = s.win := rfl
@[simp] theorem State.receive_ctx : (s.receive code mdi).ctx = s.ctx := rfl
@[simp] theorem State.receive_mon : (s.receive code mdi).mon = s.mon := rfl
@[simp] theorem State.receive_slotAt : (s.receive code mdi).slotAt = s.slotAt := rfl
@[simp] theorem State.receive_flushOf : (s.receive code mdi).flushOf = s.flushOf := rfl
@[simp] theorem State.receive_openOf : (s.receive code mdi).openOf = s.openOf := rfl
@[simp] theorem State.receive_holdsContexts : (s.receive code mdi).holdsContexts = s.holdsContexts := rfl
@[simp] theorem State.receive_mcsLow : (s.receive code mdi).mcsLow = s.mcsLow := rfl
@[simp] theorem State.receive_freeIdx : (s.receive code mdi).freeIdx = s.freeIdx := rfl
@[simp] theorem State.receive_pending : (s.receive code mdi).pending = s.pending := rfl
end

section
variable (s : State)
@[simp] theorem State.floatMdo_hold : s.floatMdo.hold = s.hold := rfl
@[simp] theorem State.floatMdo_ig : s.floatMdo.ig = s.ig := rfl
@[simp] theorem State.floatMdo_wt : s.floatMdo.wt = s.wt := rfl
@[simp] theorem State.floatMdo_ae : s.floatMdo.ae = s.ae := rfl
@[simp] theorem State.floatMdo_rf : s.floatMdo.rf = s.rf := rfl
@[simp] theorem State.floatMdo_lm : s.floatMdo.lm = s.lm := rfl
@[simp] theorem State.floatMdo_ct : s.floatMdo.ct = s.ct := rfl
@[simp] theorem State.floatMdo_eg : s.floatMdo.eg = s.eg := rfl
@[simp] theorem State.floatMdo_pa : s.floatMdo.pa = s.pa := rfl
@[simp] theorem State.floatMdo_evq : s.floatMdo.evq = s.evq := rfl
@[simp] theorem State.floatMdo_mp : s.floatMdo.mp = s.mp := rfl
@[simp] theorem State.floatMdo_win : s.floatMdo.win = s.win := rfl
@[simp] theorem State.floatMdo_ctx : s.floatMdo.ctx = s.ctx := rfl
@[simp] theorem State.floatMdo_mon : s.floatMdo.mon = s.mon := rfl
@[simp] theorem State.floatMdo_slotAt : s.floatMdo.slotAt = s.slotAt := rfl
@[simp] theorem State.floatMdo_flushOf : s.floatMdo.flushOf = s.flushOf := rfl
@[simp] theorem State.floatMdo_openOf : s.floatMdo.openOf = s.openOf := rfl
@[simp] theorem State.floatMdo_holdsContexts : s.floatMdo.holdsContexts = s.holdsContexts := rfl
@[simp] theorem State.floatMdo_mcsLow : s.floatMdo.mcsLow = s.mcsLow := rfl
@[simp] theorem State.floatMdo_freeIdx : s.floatMdo.freeIdx = s.freeIdx := rfl
@[simp] theorem State.floatMdo_pending : s.floatMdo.pending = s.pending := rfl
end

section
variable (s : State) (r : Reply)
@[simp] theorem State.store_hold : (s.store r).hold = s.hold := rfl
@[simp] theorem State.store_ig : (s.store r).ig = s.ig := rfl
@[simp] theorem State.store_wt : (s.store r).wt = s.wt := rfl
@[simp] theorem State.store_ae : (s.store r).ae = s.ae := rfl
@[simp] theorem State.store_rf : (s.store r).rf = s.rf := rfl
@[simp] theorem State.store_lm : (s.store r).lm = s.lm := rfl
@[simp] theorem State.store_ct : (s.store r).ct = s.ct := rfl
@[simp] theorem State.store_eg : (s.store r).eg = s.eg := rfl
@[simp] theorem State.store_pa : (s.store r).pa = s.pa := rfl
@[simp] theorem State.store_evq : (s.store r).evq = s.evq := rfl
@[simp] theorem State.store_mp : (s.store r).mp = { s.mp with port := .responseReady r } := rfl
@[simp] theorem State.store_pins : (s.store r).pins = s.pins := rfl
@[simp] theorem State.store_mcsLow : (s.store r).mcsLow = s.mcsLow := rfl
@[simp] theorem State.store_freeIdx : (s.store r).freeIdx = s.freeIdx := rfl
@[simp] theorem State.store_pending : (s.store r).pending = s.pending := rfl
end

/-- A window index byte names window `w` exactly when it is `w`'s index (R57, R181). -/
theorem windowArg_iff (b : Byte) (w : Fin 16) : windowArg b = some w ↔ b.toNat = w.val := by
  unfold windowArg
  split
  · simp [Fin.ext_iff]
  · rename_i h
    simp only [reduceCtorEq, false_iff]
    intro hb
    exact h (hb ▸ w.isLt)

theorem windowArg_none_iff (b : Byte) : windowArg b = none ↔ 15 < b.toNat := by
  unfold windowArg
  split <;> simp <;> omega

end Sys2Proof.Machine
end

