-- ==== Sys2Proof/Tests/Slice0.lean ====
section
/-! SUPPORT. Checks of the model on fixed values, and for every statement with hypotheses a state and operands that meet
them all (the theorems `hyp_…`, one clause after another). -/

namespace Sys2Proof.Tests

open Sys2Proof Sys2Proof.Machine

set_option Elab.async false

/-- The next state, or the reset state where there is none. -/
def after : Host.Outcome State Fault Refusal → State
  | .next t => t
  | .fault _ => State.reset
  | .refused _ => State.reset

/-! ### Well-formedness: a term for each check that it refuses -/

theorem test_wf_slot : (Instr.idleExpiry 0 256).wf = false ∧ (Instr.idleExpiry 0 255).wf = true := by decide

theorem test_wf_low : (Instr.rstAssert 0).wf = false ∧ (Instr.rstAssert 1).wf = true := by decide

theorem test_wf_short_frame : ∀ p ∈ commandRows, (p.2 []).wf = false := by decide +kernel

theorem test_wf_bad_crc : (Instr.ident (wire [0x00, 0x14])).wf = false ∧ (Instr.ident (wire [0x00, 0x15])).wf = true := by
  decide +kernel

theorem test_wf_wrong_length : ∀ p ∈ commandRows, (p.2 (frameTail p.1 (List.replicate 40 0))).wf = true := by
  decide +kernel

theorem test_wf_unknown :
    (Instr.unknownCommand 0x00 []).wf = false ∧ (Instr.unknownCommand 0x01 (wire [0x00, 0x15])).wf = false ∧
    (Instr.unknownCommand 0x03 (frameTail 0x03 [])).wf = true ∧ (Instr.unknownCommand 0x01 []).wf = true := by
  decide +kernel

theorem test_wf_short_period :
    (Instr.responseRead (.short (List.replicate 8 false))).wf = false ∧
    (Instr.responseRead (.short (List.replicate 7 true))).wf = true ∧
    (Instr.responseRead (.read [])).wf = true ∧ (Instr.responseRead .begun).wf = true := by decide

/-! ### The frame on the wire: R176's table and the sequence of 10.9 -/

theorem test_crc : crc8 [0x01, 0x00] = 0x15 ∧ crc8 [0x30, 0x00] = 0xF9 ∧ crc8 [0x09, 0x00] = 0xBD ∧
    crc8 [0x0A, 0x00] = 0x82 ∧ crc8 [0x01] = 0x07 := by decide +kernel

theorem test_frames : judge [0x01, 0x00, 0x15] = .run [] ∧ judge [0x30, 0x00, 0xF9] = .run [] ∧
    judge [0x30, 0x00, 0xF8] = .badCrc ∧ judge [0x30, 0x00] = .badFrame ∧ judge [0x30, 41, 0] = .badFrame ∧
    judge (frameBytes 0x77 []) = .badCmd ∧ judge (frameBytes 0x30 [0]) = .badArg := by decide +kernel

theorem test_reply_bytes : (Reply.plain .empty).bytes = [0x09, 0x00, 0xBD] ∧
    (Reply.plain .badCrc).bytes = [0x04, 0x00, 0x54] ∧ (Reply.plain .badFrame).bytes = [0x05, 0x00, 0x41] := by
  decide +kernel

/-! ### Result formation: the examples of 4.9 and 4.10 -/

/-- A sum formed under a format, shift and entry: the value and SAT. -/
def formed (f : SampleFormat) (shift : BitVec 8) (entry : Option Correction) (sum : Int) (count : Nat) : Int × Bool :=
  let r := formResult entry { Window.reset.fields with format := f, shift := shift } ⟨0, 0, BitVec.ofInt 48 sum, count, 0⟩
    false
  (r.value.toInt, r.flags.sat)

/-- An entry with this offset and narrow. -/
def entry (offset : Int) (narrow : Bool) : Option Correction := some ⟨true, 0, 0, 255, BitVec.ofInt 32 offset, narrow⟩

theorem test_formation_overlapping_entries :
    formed .u16 4 (entry 100 false) 16000 16 = (900, false) ∧ formed .u16 4 (entry 100 false) 800000 16 = (49900, false) ∧
    formed .u16 4 (entry (-20000) true) 800000 16 = (65535, true) ∧
    formed .u16 4 (entry (-20000) true) 15 5 = (20001, false) ∧ formed .u16 4 (entry 100 false) 960 16 = (-40, false) ∧
    formed .u16 4 (entry 100 true) 960 16 = (0, true) := by decide +kernel

theorem test_formation_clamps :
    formed .u32 9 none 2048000000000 512 = (2147483647, true) ∧
    formed .s32 0 (entry 1 false) (-2147483648) 1 = (-2147483648, true) ∧
    formed .u32 2 (entry 50 true) 42 4 = (0, true) ∧ formed .s16 1 (entry (-1) true) 65532 2 = (32767, false) := by
  decide +kernel

/-! ### Small states -/

/-- Window 0's program: S16, 4 slots at Slot Status index 0, N 2. -/
def fields : Fields where
  captureBase := 0x1000
  resultBase := 0x2000
  slotBase := 0
  slotCount := 4
  format := .s16
  ratio := 2
  shift := 1
  exhaust := .hold
  idleLimit := 10
  idleAction := .flushPartial
  overrun := .keep
  switch := .continue

/-- The reset state with window 0 in this state under this program, at time 100. -/
def win0 (x : WState) (f : Fields) : State :=
  let s := State.reset.setWin 0 ⟨x, f, Counters.zero⟩
  { s with mp := { s.mp with timebase := 100 } }

/-- Window 0 OPEN. -/
def s0 : State := win0 .opened fields

/-- An accumulation of window 0. -/
def acc (slot count : Nat) : Accum := ⟨0, slot, 5, count, 20⟩

/-- `s` with context 0 OPEN for slot 0 of window 0. -/
def withOpen (s : State) : State := s.setCtx 0 (.opened (acc 0 1))

/-- A completed context of window 0, with this address's reachability. -/
def done (slot : Nat) (unreachable : Bool) : Completed :=
  ⟨acc slot 2, false, ⟨7, 2, ⟨true, false, false, false, 0⟩⟩, 0x2000, unreachable, false⟩

/-- `s` with context 1 COMMITTING for slot 1 of window 0. -/
def withCommit (s : State) (unreachable : Bool) : State :=
  (s.setCtx 1 (.committing (done 1 unreachable))).setCommitList [1]

/-- A READ request of the record of slot 1, and a WRITE request outside every region. -/
def readReq : Request := ⟨.read, 0x2008, 8, [], []⟩

/-- A program for window 0. -/
def prog : Program := ⟨0, true, fields⟩

/-- A program that conflicts with itself: its regions overlap. -/
def badProg : Program := ⟨0, true, { fields with resultBase := 0x1000 }⟩

/-- An entry of this work, issued at this time or WAITING. -/
def entryOf (work : EgressWork) (issued : Option Time) : EgressEntry := ⟨work, 0x40, 4, [], [], issued⟩

/-- An unreachable commit link of slot 1 with Slot Status index 1. -/
def badLink : CommitLink := ⟨0, 1, 0, 1, true, false⟩

/-- `s` with this Egress Queue. -/
def withQueue (s : State) (q : List EgressEntry) : State := s.setQueue q

/-- A completed context of window 1, slot 0. -/
def otherDone : Completed := { done 0 false with acc := ⟨1, 0, 5, 2, 20⟩ }

/-- `s` with window 1 OPEN under KEEP and its context 2 at the head of the Commit List, its slot read or not. -/
def withOther (s : State) (unread : Bool) : State :=
  (((s.setWin 1 ⟨.opened, { fields with captureBase := 0x4000, resultBase := 0x5000, slotBase := 8 }, Counters.zero⟩).setCtx 2
    (.committing otherDone)).setSlot 8 ⟨3, unread⟩).setCommitList (2 :: s.ae.commitList)

/-- `s` with context 1 COMMITTING for slot 1 of window 0, marked by a FLUSH of which `n` contexts are outstanding. -/
def withMarked (s : State) (n : Nat) : State :=
  ((s.setCtx 1 (.committing { done 1 false with flushMark := true })).setCommitList [1]).setFlush 0 ⟨n, 4⟩

theorem noHeld (s : State) (h : s.ig.intake = .opened) : s.NoHeld := by
  intro x hx
  rw [h] at hx
  cases hx

/-! ### Hypotheses of the statements: resets, frames, commands that only reply -/

theorem hyp_StepRunsTheFrontCommand : State.reset.pending = [] := rfl

theorem hyp_HeldPartActsOnNothing :
    ({ State.reset with hold := .held 5 } : State).hold = .held 5 ∧ (Instr.issue true).actsInReset = false ∧
    (∀ p ∈ commandRows, (p.2 []).actsInReset = false ∧ (p.2 []).onPort = true) ∧
    (Instr.responseRead (.short [])).onPort = true ∧ (Instr.issue true).onPort = false := by
  refine ⟨rfl, rfl, by decide, rfl, rfl⟩

theorem hyp_ConfigurationStays :
    Instr.deliverResponse.wf = true ∧ Instr.deliverResponse.actsInReset = false ∧
    exec .deliverResponse State.reset = .next State.reset ∧ (∀ mdi, Instr.deliverResponse ≠ .setCorrection mdi) ∧
    ∀ mdi, Instr.deliverResponse ≠ .setTimers mdi :=
  ⟨rfl, rfl, rfl, by simp, by simp⟩

theorem hyp_TimebaseTick : State.reset.hold = .running ∧ (State.reset.resetBlocks (.held 24)).hold = .held 24 := ⟨rfl, rfl⟩

theorem hyp_ResetsHoldThePart : 10 ≤ 10 ∧ 9 < 10 ∧ State.reset.hold = .running ∧
    (State.reset.resetBlocks (.held 1)).hold = .held 1 := by decide +kernel

theorem hyp_ReleaseStartsFromTheResetState :
    (State.reset.resetBlocks (.held 0)).hold = .held 0 ∧ (State.reset.resetBlocks (.held 9)).hold = .held 9 ∧
    ((State.reset.setMcsLow true).hold = .running ∧ (State.reset.setMcsLow true).mcsLow = true) ∧
    (((State.reset.resetBlocks (.held 0)).setMcsLow true).hold = .held 0 ∧
      ((State.reset.resetBlocks (.held 0)).setMcsLow true).mcsLow = true) := ⟨rfl, rfl, ⟨rfl, rfl⟩, rfl, rfl⟩

theorem hyp_Listening : State.reset.Listening ∧ s0.Listening ∧ (withOpen s0).Listening := ⟨⟨rfl, rfl⟩, ⟨rfl, rfl⟩, ⟨rfl, rfl⟩⟩

theorem hyp_FramesRoundTrip : argLength 0x10 = some (List.replicate 21 (0 : Byte)).length ∧
    argLength 0x01 = some ([] : List Byte).length := by decide +kernel

theorem hyp_RefusedFrameOnlyStoresItsReply : ∀ p ∈ commandRows,
    judge (keptBytes p.1 (wire [41, 0])) = .badFrame ∧ judge (keptBytes p.1 (wire [0, 0])) = .badCrc ∧
    judge (keptBytes p.1 (frameTail p.1 [0, 0])) = .badArg := by decide +kernel

theorem hyp_RefusedFrame_unknown : (Instr.unknownCommand 0xFF (frameTail 0xFF [])).wf = true ∧
    (Instr.unknownCommand 0xFF []).wf = true ∧ (Instr.unknownCommand 0x30 (wire [0, 0xF8])).wf = true := by decide +kernel

theorem hyp_IdentReply : State.reset.hold = .running ∧ Executes 0x01 (frameTail 0x01 []) [] := by decide +kernel

theorem hyp_QueriesOnlyReply : State.reset.hold = .running ∧ Executes 0x02 (frameTail 0x02 []) [] ∧
    (Executes 0x13 (frameTail 0x13 [16]) [16] ∧ 15 < (16 : Byte).toNat) ∧
    Executes 0x13 (frameTail 0x13 [15]) [BitVec.ofNat 8 (15 : Fin 16).val] ∧ Executes 0x14 (frameTail 0x14 []) [] ∧
    Executes 0x31 (frameTail 0x31 []) [] := by decide +kernel

theorem hyp_ResponseReadSendsTheStoredReply :
    (State.reset.store (.plain .ok)).mp.port = .responseReady (.plain .ok) ∧ State.reset.mp.port = .idle ∧
    (List.replicate 7 true).length < 8 ∧
    (State.reset.pins.mdo = none ∧ exec .deliverResponse State.reset = .next State.reset) := by
  refine ⟨rfl, rfl, by decide, rfl, rfl⟩

/-! ### Event Queue, corrections, monitors -/

/-- `n` queued records and this lost count, with ALERT# at its level. -/
def withEvents (n : Nat) (lost : BitVec 16) : State :=
  let r : EventRecord := ⟨.spill, .flow, some 0, some 1, 5, 6, 1⟩
  { State.reset with evq := EQ.evalAlert ⟨List.replicate n r, lost, 0x1F, false⟩ }

theorem hyp_RecordIsQueuedOrCounted : (withEvents 31 0).evq.events.length < 32 ∧
    32 ≤ (withEvents 32 0xFFFF).evq.events.length := by decide +kernel

theorem hyp_PopEventReturnsTheHead : Executes 0x30 (frameTail 0x30 []) [] ∧ State.reset.evq.events = [] ∧
    (withEvents 1 0).evq.events = ⟨.spill, .flow, some 0, some 1, 5, 6, 1⟩ :: [] ∧ (withEvents 1 0).evq.lost = 0 ∧
    (withEvents 32 3).evq.lost ≠ 0 := by decide +kernel

theorem hyp_SetTimersReplacesTheLimits : ∀ p ∈ [(0, 1), (1, 0), (1, 4096), (1, 4095)],
    Executes 0x40 (frameTail 0x40 (leBytes 0 2 ++ leBytes p.1 2 ++ leBytes p.2 2 ++ [0xFF]))
      (leBytes (0 : BitVec 16).toNat 2 ++ leBytes (BitVec.ofNat 16 p.1).toNat 2 ++ leBytes (BitVec.ofNat 16 p.2).toNat 2 ++
        [0xFF]) := by decide +kernel

theorem hyp_SetCorrectionWritesOneEntry : ∀ p ∈ [(8, 0, 0, 0), (0, 16, 0, 0), (0, 0, 1, 0), (7, 15, 9, 9)],
    let a : List Byte := [BitVec.ofNat 8 p.1, 3, BitVec.ofNat 8 p.2.1, BitVec.ofNat 8 p.2.2.1, BitVec.ofNat 8 p.2.2.2] ++
      leBytes (0xFFFFFFFF : BitVec 32).toNat 4
    Executes 0x20 (frameTail 0x20 a) a := by decide +kernel

theorem hyp_SetMonitorWritesOneMonitor :
    ∀ p ∈ [(4, 0, 1, 0, 0), (3, 16, 1, 0, 0), (3, 0, 0, 0, 0), (3, 0, 16, 0, 0), (3, 0, 1, 1, 0), (3, 15, 15, 7, 7)],
    let a : List Byte := [BitVec.ofNat 8 p.1, BitVec.ofNat 8 p.2.1] ++ leBytes (0xFFFF : BitVec 16).toNat 2 ++
      leBytes (BitVec.ofNat 32 p.2.2.2.1).toNat 4 ++ leBytes (BitVec.ofNat 32 p.2.2.2.2).toNat 4 ++
      [BitVec.ofNat 8 p.2.2.1]
    Executes 0x21 (frameTail 0x21 a) a := by decide +kernel

theorem hyp_ReleaseMonitorArmsOneMonitor : Executes 0x22 (frameTail 0x22 [4]) [4] ∧ 3 < (4 : Byte).toNat ∧
    Executes 0x22 (frameTail 0x22 [3]) [3] ∧ (3 : Byte).toNat < 4 := by decide +kernel

/-- An evaluation of this value for window 0 with monitor 0 watching 0 to 10 from outside, P 2 and this count so far. -/
def watch (value : BitVec 32) (count : Nat) (action : MonitorAction) : Eval where
  s := (withOpen s0).setMon 0
    { Monitor.reset with
      enabled := true
      mask := 1
      low := 0
      high := 10
      persistence := 2
      latch := true
      action := action
      counters := Vector.replicate 16 count }
  r := ⟨value, 1, ⟨true, false, false, false, 0⟩⟩
  withhold := none

theorem hyp_MonitorTurn :
    ((watch 11 1 .report).s.mon 1).enabled = false ∧
    (((watch 11 1 .report).s.mon 0).enabled = true ∧ ((watch 11 1 .report).s.mon 0).state = .armed ∧
      ((watch 11 1 .report).s.mon 0).mask.getLsbD (0 : Fin 16).val = true) ∧
    ¬ ((10 : BitVec 32).toInt < 0 ∨ 10 < (10 : BitVec 32).toInt) ∧ (10 : Int) < (11 : BitVec 32).toInt ∧
    ((watch 11 0 .report).s.mon 0).counters[(0 : Fin 16).val] + 1 < ((watch 11 0 .report).s.mon 0).persistence.toNat ∧
    ((watch 11 1 .report).s.mon 0).counters[(0 : Fin 16).val] + 1 = ((watch 11 1 .report).s.mon 0).persistence.toNat ∧
    ((watch 11 1 .report).s.mon 0).action = .report ∧ ((watch 11 1 .withhold).s.mon 0).action = .withhold := by
  decide +kernel

theorem hyp_ResultValue : 1 ≤ 1 ∧ (entry 5 false).elim false (fun e => e.narrow) = false ∧
    (none : Option Correction).elim false (fun e => e.narrow) = false ∧
    (entry 5 true).elim false (fun e => e.narrow) = true := by decide +kernel

/-! ### Programs, FLUSH, ENGINE_RESET -/

theorem hyp_ProgramRecordRoundTrip : 15 < (([16] : List Byte).getD 0 0).toNat ∧
    (([0, 0x81] : List Byte).getD 1 0).getLsbD 0 = true ∧ (([0, 0x81] : List Byte).getD 1 0).getLsbD 7 = true := by
  decide +kernel

/-- The argument of STAGE for this program. -/
def stageArgs (p : Program) : List Byte := programBytes p.window p.enable p.fields

theorem hyp_stage (p : Program) (h : Executes 0x10 (frameTail 0x10 (stageArgs p)) (stageArgs p) ∧
    stagedProgram (stageArgs p) = some p) (s : State) (hs : s.hold = .running) :
    ∃ mdi a, s.hold = .running ∧ Executes 0x10 mdi a ∧ stagedProgram a = some p := ⟨_, _, hs, h.1, h.2⟩

theorem test_stage_args : ∀ p ∈ [prog, ⟨0, true, { fields with resultBase := 0x1000 }⟩, ⟨15, false, fields⟩],
    Executes 0x10 (frameTail 0x10 (stageArgs p)) (stageArgs p) ∧ stagedProgram (stageArgs p) = some p := by decide +kernel

theorem hyp_StageAppliesAtOnce :
    ((State.reset.win 0).state = .disabled ∧ State.reset.pa.stage = [] ∧ (State.reset.win 0).state.isDraining = false ∧
      State.reset.conflict prog = none) ∧
    ((s0.win 0).state = .opened ∧ s0.pa.stage = [] ∧ s0.holdsContexts 0 = false ∧
      s0.conflict ⟨0, true, { fields with resultBase := 0x1000 }⟩ = some (1, 0)) := by decide +kernel

/-- Window 1 OPEN beside window 0: its capture region at 0x1008, its result region at 0x2020, its slots from 4 on. -/
def beside : State := s0.setWin 1 ⟨.opened, { fields with captureBase := 0x1008, resultBase := 0x2020, slotBase := 4 }, Counters.zero⟩

/-- R29, R150: ranges that only meet pass; a region overlap comes before a slot overlap, each with its lowest window; a
DISABLED window, and the program's own old fields, are left out; a program with enable no passes. -/
theorem test_conflict :
    let far : Fields := { fields with captureBase := 0x4000, resultBase := 0x5000 }
    beside.conflict ⟨0, true, fields⟩ = none ∧ beside.conflict ⟨2, true, { far with slotBase := 8 }⟩ = none ∧
    beside.conflict ⟨2, true, { far with captureBase := 0x2038, slotBase := 8 }⟩ = some (1, 1) ∧
    beside.conflict ⟨2, true, { far with captureBase := 0x1000 }⟩ = some (1, 0) ∧
    beside.conflict ⟨2, true, { far with slotBase := 7 }⟩ = some (2, 1) ∧
    beside.conflict ⟨2, true, { far with slotBase := 3 }⟩ = some (2, 0) ∧
    beside.conflict ⟨1, true, badProg.fields⟩ = some (1, 0) ∧ s0.conflict ⟨2, true, badProg.fields⟩ = some (1, 0) ∧
    State.reset.conflict ⟨2, true, badProg.fields⟩ = some (1, 2) ∧ beside.conflict ⟨2, false, fields⟩ = none := by
  decide +kernel

theorem hyp_StageQueuesOrDrains :
    stagedProgram [16] = none ∧ 4 ≤ (s0.setStage [prog, prog, prog, prog]).pa.stage.length ∧
    (0 < (s0.setStage [prog]).pa.stage.length ∧ (s0.setStage [prog, prog, prog]).pa.stage.length < 4) ∧
    ((withOpen s0).pa.stage = [] ∧ ((withOpen s0).win prog.window).state = .opened ∧
      (withOpen s0).holdsContexts prog.window = true ∧ ((withOpen s0).win prog.window).fields.switch = .continue) := by
  decide +kernel

/-- Window 0 OPEN under RESTART. -/
def restart : State := win0 .opened { fields with switch := .restart }

theorem hyp_StageCutsOver :
    let s := withCommit (withOpen restart) false
    (s.pa.stage = [] ∧ (s.win prog.window).state = .opened ∧ s.holdsContexts prog.window = true ∧
      (s.win prog.window).fields.switch = .restart ∧ s.conflict prog = none ∧
      s.ae.commitList.filter (fun i => !(s.ctx i).inWindow 0) = []) ∧
    s.conflict ⟨0, true, { fields with resultBase := 0x1000 }⟩ = some (1, 0) := by decide +kernel

theorem hyp_StageCutsOver_flush :
    let s := withMarked restart 1
    s.holdsContexts 0 = true ∧ s.conflict prog = none ∧ (s.flushOf 0).outstanding = 1 ∧
    s.ae.pool.toList.countP (fun x => x.marked 0) = 1 := by decide +kernel

theorem hyp_StageCutsOver_others : ∀ unread,
    let s := withOther (withCommit restart false) unread
    s.holdsContexts 0 = true ∧ s.conflict prog = none ∧ s.pa.stage = [] ∧
    s.ae.commitList.filter (fun i => !(s.ctx i).inWindow 0) = 2 :: [] ∧ s.ctx 2 = .committing otherDone ∧
    (s.win 1).fields.overrun = .keep ∧ (s.slotAt 8).unread = unread ∧ otherDone.flushMark = false := by decide +kernel

theorem hyp_WithdrawRemovesThePrograms :
    Executes 0x11 (frameTail 0x11 [16]) [16] ∧ Executes 0x11 (frameTail 0x11 [15]) [15] ∧
    Executes 0x11 (frameTail 0x11 [0]) [0] ∧
    (∀ p ∈ (s0.setStage [prog]).pa.stage.head?, p.window ≠ 15) ∧
    ((s0.setStage [prog, prog]).pa.stage = [prog, prog] ∧ [prog, prog].filter (fun p => decide (p.window ≠ 0)) = [] ∧
      ((win0 (.draining .normal) fields).win 0).state.isDraining = true) := by decide +kernel

theorem hyp_FlushCompletesTheWindow :
    Executes 0x12 (frameTail 0x12 [16]) [16] ∧ Executes 0x12 (frameTail 0x12 [0]) [0] ∧
    (State.reset.win 0).state = .disabled ∧ 0 < ((s0.setFlush 0 ⟨1, 0⟩).flushOf 0).outstanding ∧
    ((s0.win 0).state ≠ .disabled ∧ (s0.flushOf 0).outstanding = 0 ∧ s0.openOf 0 = 0 ∧ s0.pa.stage = []) ∧
    ((withOpen s0).openOf 0 = 1 ∧ (withOpen s0).ctx 0 = .opened (acc 0 1)) := by decide +kernel

theorem hyp_Flush_headWaits : HeadWaits s0 ∧ s0.NoHeld := ⟨Or.inl rfl, noHeld _ rfl⟩

theorem hyp_Flush_unwatched :
    let s := withOpen s0
    (s.win 0).state ≠ .disabled ∧ (s.flushOf 0).outstanding = 0 ∧ 0 < s.openOf 0 ∧ s.ae.commitList = [] ∧
    s.pa.stage = [] ∧ (∀ m, (s.mon m).enabled = false) ∧ (s.slotAt 0).unread = false := by decide +kernel

theorem hyp_Flush_behind_a_head :
    let s := withCommit (withOpen s0) false
    (s.flushOf 0).outstanding = 0 ∧ 0 < s.openOf 0 ∧ s.ae.commitList ≠ [] ∧ s.pa.stage = [] ∧
    s.commitCandidate = some (1, done 1 false) ∧ s.ig.intake = .opened := by decide +kernel

theorem hyp_EngineResetClearsTheEngine : Executes 0x41 (frameTail 0x41 []) [] ∧ (withOpen s0).hold = .running := by
  decide +kernel

/-! ### The ingress side -/

/-- The region law for a state in which window 0 alone decodes and its regions do not meet. -/
theorem regionLaw_of_one (s : State) (h : ∀ v, (s.win v).decodes = true → v = 0)
    (d : ∀ a, (s.win 0).fields.capture.has a = true → (s.win 0).fields.result.has a = true → False) : RegionLaw s := by
  refine ⟨fun v w g k a hv hw hg hk => ?_, fun v w i hv hw _ _ => (h v hv).trans (h w hw).symm⟩
  rw [h v hv] at hg ⊢
  rw [h w hw] at hk ⊢
  refine ⟨rfl, ?_⟩
  cases g <;> cases k <;> first
    | rfl
    | exact (d a hg hk).elim
    | exact (d a hk hg).elim

theorem regionLaw_s0 : RegionLaw s0 := by
  refine regionLaw_of_one s0 (by decide +kernel) fun a hc hr => ?_
  have e1 : (s0.win 0).fields.capture = ⟨0x1000, 0x1008⟩ := by decide +kernel
  have e2 : (s0.win 0).fields.result = ⟨0x2000, 0x2020⟩ := by decide +kernel
  rw [e1] at hc
  rw [e2] at hr
  simp only [Span.has, decide_eq_true_eq] at hc hr
  omega

theorem hyp_DecoderAnswers : (s0.win 0).decodes = true ∧ (s0.win 0).fields.capture.has 0x1007 = true ∧
    (s0.win 0).fields.result.has 0x201F = true ∧
    (∀ w g, (s0.win w).decodes = true → (s0.win w).fields.owns g 0x1008 = false) := by
  refine ⟨by decide +kernel, by decide +kernel, by decide +kernel, ?_⟩
  intro w g
  cases g <;> revert w <;> decide +kernel

/-- No lanes. -/
def noData : Lanes := Vector.replicate 64 0

/-- `s` with an intake and a Response Order List of `n` entries. -/
def withRol (s : State) (n : Nat) (x : Intake) : State :=
  { s with ig := { rol := (List.range n).map (fun i => ⟨i, .read, 8, 8, .waiting⟩), nextLink := n, intake := x } }

theorem linkLaw_reset_rol (s : State) (h : s.ig.rol = []) : LinkLaw s := by simp [LinkLaw, h]

theorem hyp_LinkViolationIsRefused :
    (withRol s0 1 (.offering ⟨readReq, 0⟩)).ig.intake ≠ .opened ∧ 16 ≤ (withRol s0 16 .opened).ig.rol.length ∧
    (s0.ig.intake = .opened ∧ s0.ig.rol.length < 16) ∧ (0 : BitVec 7) = 0 ∧
    ((2 : BitVec 7) ≠ 0 ∧ 64 < (0x103F : Addr).toNat % 64 + (2 : BitVec 7).toNat) := by decide +kernel

theorem hyp_Link_law : LinkLaw (withRol s0 3 .opened) ∧ LinkLaw s0 := by
  refine ⟨?_, linkLaw_reset_rol _ rfl⟩
  unfold LinkLaw
  decide +kernel

theorem hyp_OtherTrafficPasses : (64 : BitVec 7) ≠ 0 ∧ (0x3000 : Addr).toNat % 64 + (64 : BitVec 7).toNat ≤ 64 ∧
    ∀ a ∈ (linkRequest .write 0x3000 64 noData 0).bytes, s0.decode a = none := by decide +kernel

theorem hyp_WrongWrites_result :
    (linkRequest .write 0x2000 8 noData 0).bytes = [] ++ 0x2000 :: (List.range 7).map (· + 0x2001) ∧
    s0.decode 0x2000 = some ⟨0, .result, 0⟩ := by decide +kernel

/-- The hypotheses of the second clause for a WRITE whose first byte lies in window 0's capture region. -/
def shapeHyp (addr : Addr) (size : BitVec 7) (be : BitVec 64) (slot : Nat) : Prop :=
  let r := linkRequest .write addr size noData be
  size ≠ 0 ∧ addr.toNat % 64 + size.toNat ≤ 64 ∧ r.bytes = [] ++ addr.toNat :: r.bytes.tail ∧
  s0.decode addr.toNat = some ⟨0, .capture, slot⟩ ∧ ∀ x ∈ r.bytes, ∀ y ∈ s0.decode x, y.region ≠ .result

theorem hyp_WrongWrites_straddle : shapeHyp 0x1006 4 0 3 ∧ s0.decode 0x1008 = none := by
  unfold shapeHyp
  decide +kernel

theorem hyp_WrongWrites_misaligned : shapeHyp 0x1001 2 0 0 ∧ (0x1001 - (s0.win 0).fields.captureBase.toNat) % 2 ≠ 0 := by
  unfold shapeHyp
  decide +kernel

theorem hyp_WrongWrites_length_enables : shapeHyp 0x1000 1 0 0 ∧ (1 : BitVec 7).toNat % 2 ≠ 0 ∧ shapeHyp 0x1000 2 1 0 ∧
    ∃ e ∈ (linkRequest .write 0x1000 2 noData 1).be, e = false := by
  unfold shapeHyp
  decide +kernel

/-- The sample write of slots 0 and 1 of window 0. -/
def sampleReq : Request := linkRequest .write 0x1000 4 noData 0xF

/-- No context FREE: all 64 serve window 1. -/
def exhausted (s : State) : State :=
  { s with ae := { s.ae with pool := Vector.replicate 64 (.opened ⟨1, 0, 0, 1, 0⟩) } }

theorem hyp_SampleWriteHeldOrSpilled :
    let d : Decoded := ⟨0, .capture, 0⟩
    let drain := win0 (.draining .normal) fields
    let spill := exhausted (win0 .opened { fields with exhaust := .spill })
    let full := exhausted s0
    (drain.sort sampleReq = .sampleWrite d ∧ (drain.win 0).state.isDraining = true ∧ 0 < drain.needed 0 0 2) ∧
    (full.sort sampleReq = .sampleWrite d ∧ (full.win 0).state = .opened ∧ full.freeCount < full.needed 0 0 2 ∧
      (full.win 0).fields.exhaust = .hold ∧ full.mp.holdLimit ≠ 0) ∧
    (spill.sort sampleReq = .sampleWrite d ∧ spill.freeCount < spill.needed 0 0 2 ∧
      (spill.win 0).fields.exhaust = .spill) ∧
    ({ full with mp := { full.mp with holdLimit := 0 } } : State).mp.holdLimit = 0 := by decide +kernel

/-- `s` with the sample write held for this reason since time 90, under a limit of 50. -/
def heldIn (s : State) (why : HoldReason) : State :=
  (withRol s 1 (.holding ⟨sampleReq, 0, why, 0, 0, 2⟩)).setHoldTimer (if why = .exhaustion then some ⟨90, 50⟩ else none)

theorem hyp_Release_sorted : ∀ p ∈
    [({ fields with captureBase := 0x4000, resultBase := 0x1000 }, Sorted.resultWrite ⟨0, .result, 0⟩),
     ({ fields with slotCount := 1 }, .malformed ⟨0, .capture, 0⟩ 3), (fields, .sampleWrite ⟨0, .capture, 0⟩),
     ({ fields with captureBase := 0x4000 }, .passThrough)],
    let s := heldIn (win0 .opened p.1) .drain
    s.ig.intake = .holding ⟨sampleReq, 0, .drain, 0, 0, 2⟩ ∧ s.sort sampleReq = p.2 := by decide +kernel

theorem hyp_Release_held_again :
    (let s := heldIn (win0 (.draining .normal) fields) .drain
     s.sort sampleReq = .sampleWrite ⟨0, .capture, 0⟩ ∧ (s.win 0).state.isDraining = true ∧ 0 < s.needed 0 0 2) ∧
    (∀ why, let s := heldIn (exhausted s0) why
      (s.win 0).state.isDraining = false ∧ s.freeCount < s.needed 0 0 2 ∧ (s.win 0).fields.exhaust = .hold ∧
      s.mp.holdLimit ≠ 0) ∧
    (let s := heldIn (exhausted (win0 .opened { fields with exhaust := .spill })) .exhaustion
     s.freeCount < s.needed 0 0 2 ∧ (s.win 0).fields.exhaust = .spill) := by
  refine ⟨by decide +kernel, ?_, by decide +kernel⟩
  intro why
  cases why <;> decide +kernel

theorem hyp_Release_absorbed :
    let s := heldIn s0 .exhaustion
    (s.sort sampleReq = .sampleWrite ⟨0, .capture, 0⟩ ∧ s.needed 0 0 2 ≤ s.freeCount ∧
      (s.win 0).state.isDraining = false) ∧
    (s.ae.commitList = [] ∧ s.pa.stage = [] ∧ (s.win 0).fields.ratio.toNat ≠ 1 ∧ ∀ i, (s.ctx i).isFree = true) := by
  decide +kernel

/-- At most one OPEN context at all: the second law of R39. -/
theorem oneOpen_of_one (s : State) (h : ∀ i j, (s.ctx i).isOpen = true → (s.ctx j).isOpen = true → i = j) :
    OneOpenPerKey s := by
  intro i j w slot hi hj
  refine h i j ?_ ?_
  · cases hc : s.ctx i <;> simp_all [Context.isKey, Context.isOpen]
  · cases hc : s.ctx j <;> simp_all [Context.isKey, Context.isOpen]

/-- Window 0 under N 4, with slot 0's context OPEN. -/
def half : State := withOpen (win0 .opened { fields with ratio := 4 })

theorem hyp_SampleWriteAbsorbed :
    half.sort sampleReq = .sampleWrite ⟨0, .capture, 0⟩ ∧ (half.win 0).state = .opened ∧
    half.needed 0 0 2 ≤ half.freeCount ∧ (half.win 0).fields.ratio.toNat ≠ 1 ∧
    (∀ i : Fin 64, ∀ a ∈ (half.ctx i).acc?, a.count + 1 ≠ (half.win 0).fields.ratio.toNat) ∧
    half.ae.commitList = [] ∧ half.pa.stage = [] ∧ half.ig.rol = [] := by decide +kernel

theorem hyp_SampleWriteAbsorbed_keys : OneOpenPerKey half := oneOpen_of_one _ (by decide +kernel)

theorem hyp_SampleWrite_sort :
    (s0.win 0).decodes = true ∧ sampleReq.kind = .write ∧ sampleReq.size ≠ 0 ∧
    sampleReq.addr.toNat % 64 + sampleReq.size ≤ 64 ∧
    (∀ a ∈ sampleReq.bytes, (s0.win 0).fields.capture.has a = true) ∧
    (sampleReq.addr.toNat - (s0.win 0).fields.captureBase.toNat) % (s0.win 0).fields.format.width = 0 ∧
    sampleReq.size % (s0.win 0).fields.format.width = 0 ∧ ∀ e ∈ sampleReq.be, e = true := by decide +kernel

theorem hyp_SampleWriteAbsorbed_draining :
    let s := withOpen (win0 (.draining .normal) { fields with ratio := 4 })
    s.sort (linkRequest .write 0x1000 2 noData 0x3) = .sampleWrite ⟨0, .capture, 0⟩ ∧ (s.win 0).state.isDraining = true ∧
    s.needed 0 0 1 = 0 ∧ s.ae.commitList = [] ∧ s.pa.stage = [] := by decide +kernel

theorem hyp_SampleWriteAbsorbed_full :
    let s := withOpen s0
    s.sort sampleReq = .sampleWrite ⟨0, .capture, 0⟩ ∧ (s.win 0).state = .opened ∧ s.needed 0 0 2 ≤ s.freeCount ∧
    (∀ m, (s.mon m).enabled = false) ∧ s.ae.commitList = [] ∧ (∀ j < 2, (s.slotAt j).unread = false) ∧
    (s.win 0).fields.ratio.toNat = (acc 0 1).count + 1 ∧ s.lookup 0 0 = some 0 := by decide +kernel

theorem hyp_ReadyHeadIsDelivered : State.reset.ig.rol = [] ∧
    (withRol s0 2 .opened).ig.rol = ⟨0, .read, 8, 8, .waiting⟩ :: [⟨1, .read, 8, 8, .waiting⟩] ∧
    ((withRol s0 1 .opened).rolReady 0 .ok [1, 2, 3, 4, 5, 6, 7, 8]).ig.rol =
      [⟨0, .read, 8, 8, .ready .ok [1, 2, 3, 4, 5, 6, 7, 8]⟩] ∧
    (State.reset.pins.igrValid = false ∧ exec .deliverResponse State.reset = .next State.reset) := by
  refine ⟨rfl, rfl, by decide +kernel, rfl, rfl⟩

/-! ### Timers, completion -/

/-- The sample write held for EXHAUSTION since this time, under a limit of 50. -/
def holding (start : Time) : State :=
  (withRol (exhausted s0) 1 (.holding ⟨sampleReq, 0, .exhaustion, 0, 0, 2⟩)).setHoldTimer (some ⟨start, 50⟩)

theorem hyp_HoldTimerExpirySpills :
    (holding 51).ig.intake = .holding ⟨sampleReq, 0, .exhaustion, 0, 0, 2⟩ ∧ (holding 51).ae.holdTimer = some ⟨51, 50⟩ ∧
    ((holding 51).mp.timebase - 51).toNat < (50 : BitVec 16).toNat ∧
    (50 : BitVec 16).toNat ≤ ((holding 50).mp.timebase - 50).toNat := by decide +kernel

theorem hyp_HeldRequestIsReleased :
    let s := withCommit (heldIn s0 .drain) false
    let without : State := { s with ig := { s.ig with intake := .opened } }
    s.ig.intake = .holding ⟨sampleReq, 0, .drain, 0, 0, 2⟩ ∧ s.pa.stage = [] ∧
    s.freeCount < (after (exec .commitEntry without)).freeCount ∧
    (after (exec .drainTimerExpiry without)).freeCount = s.freeCount ∧
    (s.setStage [prog]).pa.stage = prog :: [] ∧ prog.window.val = (0 : Byte).toNat ∧ prog.window.val ≠ (1 : Byte).toNat := by
  decide +kernel

theorem hyp_HeldRequestIsReleased_frames : (heldIn s0 .drain).Listening ∧ Executes 0x11 (frameTail 0x11 [0]) [0] ∧
    Executes 0x11 (frameTail 0x11 [1]) [1] ∧ Executes 0x41 (frameTail 0x41 []) [] :=
  ⟨⟨rfl, rfl⟩, by decide +kernel, by decide +kernel, by decide +kernel⟩

theorem hyp_IdleExpiryEndsTheContext :
    let s := withOpen (win0 .opened { fields with idleAction := .discard })
    let f := withCommit (withOpen s0) false
    (s.ctx 0 = .opened (acc 0 1) ∧ (s.win 0).fields.idleLimit ≠ 0 ∧
      (s.win 0).fields.idleLimit.toNat ≤ (s.mp.timebase - (acc 0 1).lastSampleTime).toNat ∧
      (s.win 0).fields.idleAction = .discard ∧ s.pa.stage = [] ∧ s.ae.commitList = []) ∧
    (f.ctx 0 = .opened (acc 0 1) ∧ (f.win 0).fields.idleAction = .flushPartial ∧ f.ae.commitList ≠ []) := by
  decide +kernel

theorem hyp_IdleExpiry_nothing :
    (∀ i, (s0.ctx i).isKey 0 0 = false) ∧
    ((win0 .opened { fields with idleLimit := 0 }).win 0).fields.idleLimit = 0 ∧
    ((withOpen (win0 .opened { fields with idleLimit := 81 })).ctx 0 = .opened (acc 0 1) ∧
      ((100 : Time) - (acc 0 1).lastSampleTime).toNat < (81 : BitVec 16).toNat) := by decide +kernel

theorem hyp_IdleExpiry_empty_list :
    let s := withOpen s0
    let r := (withOpen (win0 .opened { fields with overrun := .replace })).setSlot 0 ⟨5, true⟩
    (s.ae.commitList = [] ∧ (s.win 0).fields.idleAction = .flushPartial ∧ (s.slotAt 0).unread = false) ∧
    (r.ae.commitList = [] ∧ (r.win 0).fields.idleAction = .flushPartial ∧ (r.win 0).fields.overrun = .replace) := by
  decide +kernel

theorem hyp_IdleExpiry_laws : OneOpenPerKey (withCommit (withOpen s0) false) ∧ HeadWaits (withCommit (withOpen s0) false) :=
  ⟨oneOpen_of_one _ (by decide +kernel), Or.inr ⟨(1, done 1 false), by decide +kernel⟩⟩

theorem hyp_CompletionOutcome :
    (∀ m, ((withOpen s0).mon m).enabled = false) ∧ (withOpen s0).ctx 0 = .opened (acc 0 1) ∧
    (evaluate (watch 11 1 .withhold).s 0 0 (watch 11 1 .withhold).r).withhold = some 0 ∧
    (evaluate (watch 11 1 .report).s 0 0 (watch 11 1 .report).r).withhold = none ∧
    (evaluate (watch 11 1 .report).s 0 0 (watch 11 1 .report).r).r.flags.hits = 1 ∧
    (formResult none { fields with shift := 0 } ⟨0, 0, 11, 1, 20⟩ false).value = 11 := by decide +kernel

/-- Window 0 in a NORMAL drain with a COMMITTING context, its timer started at this time under a limit of 50. -/
def draining (start : Time) (action : IdleAction) : State :=
  ((withCommit (win0 (.draining .normal) { fields with idleAction := action }) false).setStage [prog]).setDrainTimer
    (some ⟨start, 50⟩)

/-- Window 0 in a NORMAL drain with no context yet, its timer started at 50 under a limit of 50. -/
def drainOnly (action : IdleAction) (p : Program) : State :=
  ((win0 (.draining .normal) { fields with idleAction := action }).setStage [p]).setDrainTimer (some ⟨50, 50⟩)

theorem hyp_DrainIsForced :
    ((draining 51 .discard).pa.stage = [prog] ∧ (draining 51 .discard).pa.drainTimer = some ⟨51, 50⟩ ∧
      ((draining 51 .discard).win 0).state = .draining .normal ∧
      ((draining 51 .discard).mp.timebase - 51).toNat < (50 : BitVec 16).toNat) ∧
    (((draining 51 .discard).ctx 1).isCommitting = true ∧ ((draining 51 .discard).ctx 1).inWindow 0 = true) ∧
    ((50 : BitVec 16).toNat ≤ ((draining 50 .discard).mp.timebase - 50).toNat ∧ (draining 50 .discard).openOf 0 = 0) ∧
    (((withOpen (draining 50 .discard)).win 0).fields.idleAction = .discard ∧
      0 < (withOpen (draining 50 .discard)).openOf 0) ∧
    (((withOpen (draining 50 .flushPartial)).win 0).fields.idleAction = .flushPartial ∧
      0 < (withOpen (draining 50 .flushPartial)).openOf 0 ∧ (withOpen (draining 50 .flushPartial)).ae.commitList ≠ [] ∧
      ∀ m, ((withOpen (draining 50 .flushPartial)).mon m).enabled = false) := by decide +kernel

theorem hyp_DrainIsForced_and_ends :
    let s := withOpen (drainOnly .discard prog)
    (s.pa.stage = prog :: [] ∧ (s.win 0).state = .draining .normal ∧ (50 : BitVec 16).toNat ≤ (s.mp.timebase - 50).toNat ∧
      (∀ i, (s.ctx i).isCommitting = false) ∧ s.conflict prog = none) ∧
    (withOpen (drainOnly .discard badProg)).conflict badProg = some (1, 0) := by decide +kernel

theorem hyp_DrainEnds_idle : ∀ p ∈ [(prog, none), (badProg, some (1, (0 : Fin 16)))],
    let s := withOpen (drainOnly .discard p.1)
    s.pa.stage = [p.1] ∧ (s.win 0).state = .draining .normal ∧ s.ctx 0 = .opened (acc 0 1) ∧
    (∀ k, k ≠ 0 → (s.ctx k).inWindow 0 = false) ∧ (s.win 0).fields.idleLimit ≠ 0 ∧ s.ae.commitList = [] ∧
    (s.win 0).fields.idleLimit.toNat ≤ (s.mp.timebase - (acc 0 1).lastSampleTime).toNat ∧
    s.conflict p.1 = p.2 := by decide +kernel

theorem hyp_DrainEnds_commit : ∀ sub, ∀ p ∈ [(OverrunPolicy.keep, false), (.replace, true)],
    let s := ((withCommit (win0 (.draining sub) { fields with overrun := p.1 }) false).setStage [prog]).setSlot 1 ⟨6, p.2⟩
    s.pa.stage = [prog] ∧ (s.win 0).state = .draining sub ∧ s.ctx 1 = .committing (done 1 false) ∧
    (∀ k, k ≠ 1 → (s.ctx k).inWindow 0 = false) ∧ s.ae.commitList = [1] ∧ s.eg.queue.length < 16 ∧
    s.conflict prog = none ∧ (s.win 0).fields.slotBase.toNat + 1 < 1024 ∧ (s.slotAt 1).unread = p.2 := by
  intro sub
  cases sub <;> decide +kernel

theorem hyp_DrainTimerExpiry_head : HeadWaits (withOpen (draining 50 .discard)) :=
  Or.inr ⟨(1, done 1 false), by decide +kernel⟩

/-! ### Commit entry, the arbiter, the egress link -/

theorem commitListLaw_s0 : CommitListLaw (withCommit s0 false) := by
  unfold CommitListLaw
  decide +kernel

theorem hyp_CommitEntryCarriesTheRecord :
    let s := withCommit s0 false
    let r := (withCommit (win0 .opened { fields with overrun := .replace }) false).setSlot 1 ⟨255, true⟩
    (s.eg.queue.length < 16 ∧ s.ae.commitList = 1 :: [] ∧ s.ctx 1 = .committing (done 1 false) ∧
      (done 1 false).unreachable = false ∧ (s.win 0).fields.slotBase.toNat + 1 < 1024 ∧ (s.slotAt 1).unread = false) ∧
    ((r.slotAt 1).unread = true ∧ (r.win 0).fields.overrun = .replace) := by decide +kernel

theorem hyp_CommitEntry_flush_and_next :
    let s := withMarked s0 1
    let n := ((withMarked s0 2).setCtx 3 (.committing (done 2 false))).setCommitList [1, 3]
    (s.ae.commitList = 1 :: [] ∧ s.ctx 1 = .committing { done 1 false with flushMark := true } ∧
      (s.flushOf 0).outstanding = 1 ∧ (s.slotAt 1).unread = false) ∧
    (n.ae.commitList = 1 :: [3] ∧ n.ctx 3 = .committing (done 2 false) ∧ (n.win 0).fields.slotBase.toNat + 2 ≠ 1 ∧
      (n.slotAt 2).unread = false ∧ (n.flushOf 0).outstanding = 2) := by decide +kernel

theorem commitListLaw_marked : CommitListLaw (withMarked s0 1) ∧
    CommitListLaw (((withMarked s0 2).setCtx 3 (.committing (done 2 false))).setCommitList [1, 3]) := by
  unfold CommitListLaw
  decide +kernel

theorem hyp_KeepDiscardsTheHead_flush : ∀ n ∈ [1, 2],
    let s := (withMarked s0 n).setSlot 1 ⟨4, true⟩
    s.ae.commitList = 1 :: [] ∧ s.ctx 1 = .committing { done 1 false with flushMark := true } ∧
    (s.win 0).fields.overrun = .keep ∧ (s.slotAt 1).unread = true ∧ (s.flushOf 0).outstanding = n := by decide +kernel

theorem hyp_KeepDiscardsTheHead :
    let s := (withCommit s0 false).setSlot 1 ⟨4, true⟩
    s.ae.commitList = 1 :: [] ∧ s.ctx 1 = .committing (done 1 false) ∧ (s.win 0).fields.overrun = .keep ∧
    (done 1 false).flushMark = false ∧ (s.slotAt 1).unread = true := by decide +kernel

theorem hyp_IngressEntryEntersAndConsumes :
    let s := withRol s0 1 (.offering ⟨readReq, 0⟩)
    (s.ig.intake = .offering ⟨readReq, 0⟩ ∧ s.eg.queue.length < 16 ∧ s.commitCandidate = none ∧ readReq.kind = .read) ∧
    (0x2008 ∈ readReq.bytes ∧ s.decode 0x2008 = some ⟨0, .result, 1⟩) ∧
    ({ readReq with kind := .write } : Request).kind = .write := by decide +kernel

theorem hyp_IngressEntry_arbiter :
    (withQueue s0 (List.replicate 16 (entryOf (.passRead 0) none))).eg.queue.length = 16 ∧
    (withCommit s0 false).commitCandidate ≠ none ∧ s0.commitCandidate = none := by decide +kernel

theorem hyp_IssueSendsTheOldestWaiting :
    let e := entryOf (.passRead 0) none
    let old := entryOf (.passWrite 1) (some 90)
    (withQueue s0 [e]).eg.queue = [] ++ e :: [] ∧ (withQueue s0 [old, e, e]).eg.queue = [old] ++ e :: [e] ∧
    old.isIssued = true ∧ e.isIssued = false ∧ e.isUnreachable = false ∧ 1 ≤ s0.mp.responseLimit.toNat ∧
    [old].length + (withQueue s0 [old, e, e]).eg.abandoned < 16 ∧
    16 ≤ [old].length + ((withQueue s0 [old, e]).setAbandoned 15).eg.abandoned := by decide +kernel

theorem hyp_UnreachableCommitFails_entry : ∀ q ∈ [[entryOf (.passRead 0) (some 90)],
      [entryOf (.passRead 0) (some 90), entryOf (.passRead 1) none]],
    let s := withQueue (withCommit s0 true) q
    s.ae.commitList = [1] ∧ s.ctx 1 = .committing (done 1 true) ∧ (done 1 true).flushMark = false ∧
    s.eg.queue.length < 16 ∧ s.pa.stage = [] ∧ (s.slotAt 1).unread = false ∧
    (s.eg.queue = [entryOf (.passRead 0) (some 90)] ∨
      s.eg.queue = [entryOf (.passRead 0) (some 90)] ++ entryOf (.passRead 1) none :: []) := by decide +kernel

theorem hyp_UnreachableCommitFails_issue :
    let pre := [entryOf (.passRead 3) (some 90)]
    let e := entryOf (.passRead 0) none
    let x := entryOf (.commit badLink) none
    (withQueue s0 (pre ++ [e, x, x, e])).eg.queue = pre ++ e :: ([x, x] ++ [e]) ∧ e.isIssued = false ∧
    e.isUnreachable = false ∧ x.isIssued = false ∧ x.isUnreachable = true ∧
    pre.length + (withQueue s0 (pre ++ [e, x, x, e])).eg.abandoned < 16 ∧ 1 ≤ s0.mp.responseLimit.toNat := by
  decide +kernel

theorem hyp_ResponseCompletesItsEntry :
    (s0.setAbandoned 1).eg.abandoned = 0 + 1 ∧ (s0.eg.abandoned = 0 ∧ s0.eg.queue = []) ∧
    ∀ work ∈ [EgressWork.passRead 0, .passWrite 0, .commit badLink],
      let e := entryOf work (some 10)
      let y := entryOf (.passWrite 2) (some 20)
      let x := entryOf (.passRead 1) (some 95)
      let s := { withQueue s0 [e, y, x] with mp := { s0.mp with responseLimit := 80 } }
      s.eg.queue = e :: ([y] ++ [x]) ∧ e.isIssued = true ∧
      (y.isIssued = true ∧ s.mp.responseLimit.toNat ≤ y.age s.mp.timebase) ∧
      (x.isIssued = true ∧ x.age s.mp.timebase < s.mp.responseLimit.toNat) := by decide +kernel

theorem hyp_ResponseTimeoutAbandonsTheEntry :
    ∀ work ∈ [EgressWork.passRead 0, .passWrite 0, .commit badLink],
      let e := entryOf work (some 10)
      let y := entryOf (.commit badLink) (some 20)
      let x := entryOf (.passRead 1) (some 95)
      let s := { s0 with eg := ⟨[e, y, x], 0, some 90⟩, mp := { s0.mp with responseLimit := 80 } }
      s.eg.queue = e :: ([y] ++ [x]) ∧ e.issued = some 10 ∧ s.eg.timer = some 90 ∧
      (y.isIssued = true ∧ s.mp.responseLimit.toNat ≤ y.age s.mp.timebase) ∧
      (x.isIssued = true ∧ x.age s.mp.timebase < s.mp.responseLimit.toNat) ∧
      (90 : BitVec 16).toNat ≤ (s.mp.timebase - 10).toNat ∧
      (s.mp.timebase - 10).toNat < (91 : BitVec 16).toNat := by decide +kernel

/-! ### The laws: for each a state that has it and takes a step -/

/-- `s` with a tick of the timebase waiting. -/
def ticking (s : State) : State := { s with pending := [.timebaseTick] }

/-- A step that the laws speak of. -/
theorem ticks (s : State) (h : s.hold = .running) : ∃ t, step (ticking s) = .next t :=
  ⟨_, by simp only [step, ticking, exec, execTimebaseTick, State.tick, h]; rfl⟩

theorem hyp_AlertLawKept : AlertLaw (ticking (withEvents 32 7)) ∧ ∃ t, step (ticking (withEvents 32 7)) = .next t := by
  refine ⟨?_, ticks _ rfl⟩
  unfold AlertLaw
  decide +kernel

theorem hyp_LossLawKept : LossLaw (ticking (withEvents 32 7)) ∧ ∃ t, step (ticking (withEvents 32 7)) = .next t := by
  refine ⟨?_, ticks _ rfl⟩
  unfold LossLaw
  decide +kernel

theorem hyp_CapacityAndLinkLawsKept : CapacityLaw (ticking (withRol s0 16 .opened)) ∧
    LinkLaw (ticking (withRol s0 16 .opened)) ∧ ∃ t, step (ticking (withRol s0 16 .opened)) = .next t := by
  refine ⟨?_, ?_, ticks _ rfl⟩
  · unfold CapacityLaw
    decide +kernel
  · unfold LinkLaw
    decide +kernel

/-- A list of two WAITING entries, the first answered by a PASS entry, the second by the offered request. -/
def owned : State := withQueue (withRol s0 2 (.offering ⟨readReq, 1⟩)) [entryOf (.passRead 0) none]

theorem hyp_OwnerLawKept : LinkLaw (ticking owned) ∧ OwnerLaw (ticking owned) ∧ ∃ t, step (ticking owned) = .next t := by
  refine ⟨?_, ⟨by decide +kernel, fun n => ?_⟩, ticks _ rfl⟩
  · unfold LinkLaw
    decide +kernel
  · have hc : (ticking owned).carried = [1, 0] := by decide +kernel
    have hr : (ticking owned).ig.rol = [⟨0, .read, 8, 8, .waiting⟩, ⟨1, .read, 8, 8, .waiting⟩] := by decide +kernel
    rw [hc, hr]
    simp [or_comm, eq_comm]

/-- An ISSUED entry ahead of a WAITING one, with the response timer running. -/
def busy : State :=
  { s0 with eg := ⟨[entryOf (.passRead 0) (some 90), entryOf (.passRead 1) none], 15, some 250⟩ }

theorem hyp_IssueLawKept : (IssueLaw (ticking busy) ∧ QueueOrderLaw (ticking busy)) ∧ ∃ t, step (ticking busy) = .next t := by
  refine ⟨⟨?_, [entryOf (.passRead 0) (some 90)], [entryOf (.passRead 1) none], rfl, ?_, ?_⟩, ticks _ rfl⟩
  · unfold IssueLaw
    decide +kernel
  · decide
  · decide

theorem hyp_ResponseTimerLawKept : ResponseTimerLaw (ticking busy) ∧ ∃ t, step (ticking busy) = .next t := by
  refine ⟨?_, ticks _ rfl⟩
  unfold ResponseTimerLaw
  decide +kernel

theorem hyp_HoldTimerLawKept : HoldTimerLaw (ticking (holding 50)) ∧ ∃ t, step (ticking (holding 50)) = .next t :=
  ⟨⟨fun _ => ⟨_, rfl, rfl⟩, fun _ => rfl⟩, ticks _ rfl⟩

/-- Window 0 with an OPEN and a COMMITTING context, its counters as the conservation law has them. -/
def loaded : State :=
  (withCommit (withOpen s0) false).count 0 (fun c => { c with absorbed := 3 })

theorem poolLaw_loaded : PoolLaw loaded := by
  refine ⟨?_, oneOpen_of_one _ (by decide +kernel)⟩
  unfold CommitListLaw
  decide +kernel

theorem disabled_loaded : ∀ w, (loaded.win w).decodes = false → loaded.holdsContexts w = false := by decide +kernel

theorem hyp_PoolLawKept : PoolLaw (ticking loaded) ∧ ∃ t, step (ticking loaded) = .next t := ⟨poolLaw_loaded, ticks _ rfl⟩

theorem hyp_CountLawKept : CountLaw (ticking loaded) ∧ ∃ t, step (ticking loaded) = .next t := by
  refine ⟨⟨fun i a h => ?_, poolLaw_loaded.2, disabled_loaded, by decide +kernel, by decide +kernel⟩, ticks _ rfl⟩
  have hall : ∀ i : Fin 64, ∀ a ∈ (if (loaded.ctx i).isOpen then (loaded.ctx i).acc? else none),
      1 ≤ a.count ∧ a.count < (loaded.win a.window).fields.ratio.toNat := by decide +kernel
  exact hall i a (by have hi : loaded.ctx i = .opened a := h; rw [hi]; rfl)

theorem hyp_ConservationLawKept : ConservationLaw (ticking loaded) ∧ ∃ t, step (ticking loaded) = .next t := by
  refine ⟨⟨?_, disabled_loaded⟩, ticks _ rfl⟩
  have hall : ∀ w, (loaded.win w).counters.absorbed =
      BitVec.ofNat 32 (loaded.heldCount w) + (loaded.win w).counters.committedSamples + (loaded.win w).counters.dropped := by
    decide +kernel
  exact hall

theorem hyp_CommitHeadLawKept : CommitHeadLaw (ticking loaded) ∧ ∃ t, step (ticking loaded) = .next t :=
  ⟨⟨Or.inr ⟨(1, done 1 false), by decide +kernel⟩, poolLaw_loaded, disabled_loaded⟩, ticks _ rfl⟩

theorem hyp_DrainLawKept : DrainLaw (ticking (draining 50 .discard)) ∧
    ∃ t, step (ticking (draining 50 .discard)) = .next t := by
  refine ⟨⟨fun w hw => ⟨prog, [], rfl, ?_⟩, fun p rest h => ?_, ⟨fun _ => ⟨0, by decide +kernel⟩, fun _ => rfl⟩⟩,
    ticks _ rfl⟩
  · have hall : ∀ w, ((draining 50 .discard).win w).state.isDraining = true → (0 : Fin 16) = w := by decide +kernel
    exact hall w hw
  · have hs : (ticking (draining 50 .discard)).pa.stage = [prog] := rfl
    rw [hs] at h
    obtain ⟨rfl, _⟩ := List.cons.inj h
    decide +kernel

theorem hyp_RegionLawKept : RegionLaw (ticking s0) ∧ ∃ t, step (ticking s0) = .next t := ⟨regionLaw_s0, ticks _ rfl⟩

theorem hyp_MonitorLawKept : MonitorLaw (ticking (watch 11 1 .report).s) ∧
    ∃ t, step (ticking (watch 11 1 .report).s) = .next t := by
  refine ⟨?_, ticks _ rfl⟩
  unfold MonitorLaw
  decide +kernel

/-! ### One step of each kind on a small state -/

theorem test_absorb :
    let t := after (exec (.ingressRequest .write 0x1000 4 ((noData.set 0 0xFE).set 1 0xFF) 0xF) s0)
    t.ctx 0 = .opened ⟨0, 0, BitVec.ofInt 48 (-2), 1, 100⟩ ∧ t.ctx 1 = .opened ⟨0, 1, 0, 1, 100⟩ ∧
    (t.win 0).counters.absorbed = 2 ∧ t.ig.rol = [⟨0, .write, 4, 0, .ready .ok []⟩] := by decide +kernel

/-- A second sample brings slot 0 to N: (5 + 7 + 1) / 2, rounded down, is 6. -/
theorem test_full_completion :
    let t := after (exec (.ingressRequest .write 0x1000 2 (noData.set 0 7) 0x3) (withOpen s0))
    t.ae.commitList = [0] ∧
    t.ctx 0 = .committing ⟨⟨0, 0, 12, 2, 100⟩, false, ⟨6, 2, ⟨true, false, false, false, 0⟩⟩, 0x2000, false, false⟩ := by
  decide +kernel

theorem test_refusals :
    (after (exec (.ingressRequest .write 0x2004 1 noData 0) s0)).evq.events.map EventRecord.kind = [.resultWriteRefused] ∧
    (after (exec (.ingressRequest .write 0x1006 4 noData 0) s0)).evq.events.map EventRecord.aux = [3] := by
  decide +kernel

theorem test_deliver :
    (after (exec .deliverResponse ((withRol s0 1 .opened).rolReady 0 .ok [1, 2, 3, 4, 5, 6, 7, 8]))).pins.igr =
      some ⟨.ok, toLanes 8 [1, 2, 3, 4, 5, 6, 7, 8]⟩ := by decide +kernel

theorem test_hold_expiry :
    let t := after (exec .holdTimerExpiry (holding 50))
    t.ig.intake = .offering ⟨sampleReq, 0⟩ ∧ t.evq.events.map (fun r => (r.kind, r.detail, r.aux)) = [(.spill, 2, 3)] ∧
    (t.win 0).counters.spilled = 1 := by decide +kernel

/-- A partial completion: (5 + 1) / 2 is 3. -/
theorem test_idle_partial :
    ((after (exec (.idleExpiry 0 0) (withOpen s0))).commitCandidate.map fun p => p.2.result) =
      some ⟨3, 1, ⟨true, true, false, false, 0⟩⟩ := by decide +kernel

theorem test_commit_entry :
    let t := after (exec .commitEntry (withCommit s0 false))
    t.slotAt 1 = ⟨1, true⟩ ∧ t.ctx 1 = .free ∧ t.ae.commitList = [] ∧
    t.eg.queue.map EgressEntry.data = [[7, 0, 0, 0, 2, 0, 1, 1]] ∧ (t.win 0).counters.committedSamples = 2 := by
  decide +kernel

theorem test_keep_discard :
    let t := after (exec (.idleExpiry 0 0) (withOpen ((withCommit s0 false).setSlot 1 ⟨4, true⟩)))
    t.ctx 1 = .free ∧ t.ae.commitList = [0] ∧ (t.win 0).counters.overruns = 1 ∧
    t.evq.events.map (fun r => (r.kind, r.detail)) = [(.overrunKept, 4)] := by decide +kernel

/-- Two heads that KEEP discards: one test takes the first, two take both, and a third changes nothing. -/
theorem test_keep_tests :
    let s := (((withCommit s0 false).setCtx 2 (.committing (done 2 false))).setCommitList [1, 2]).setSlot 1 ⟨4, true⟩
    let u := s.setSlot 2 ⟨6, true⟩
    (keepTests 0 u).ae.commitList = [1, 2] ∧ (keepTests 1 u).ae.commitList = [2] ∧ (keepTests 2 u).ae.commitList = [] ∧
    (keepTests 3 s).ae.commitList = [2] ∧ u.keepRun.evq.events.map EventRecord.detail = [4, 6] := by decide +kernel

theorem test_ingress_entry_consumes :
    let t := after (exec .ingressEntry ((withRol s0 1 (.offering ⟨readReq, 0⟩)).setSlot 1 ⟨3, true⟩))
    t.slotAt 1 = ⟨3, false⟩ ∧ t.ig.intake = .opened ∧ t.eg.queue.map EgressEntry.work = [.passRead 0] := by decide +kernel

theorem test_issue :
    let t := after (exec (.issue true) (withQueue s0 [entryOf (.passRead 0) none]))
    t.eg.queue.map EgressEntry.issued = [some 100] ∧ t.eg.timer = some 250 ∧ t.pins.egq = some ⟨.read, 0x40, 4, [], []⟩ := by
  decide +kernel

theorem test_response :
    let s := withQueue (withRol s0 1 .opened) [entryOf (.passRead 0) (some 90)]
    (after (exec (.egressResponse .ok (noData.set 2 9)) s)).ig.rol = [⟨0, .read, 8, 8, .ready .ok [0, 0, 9, 0]⟩] ∧
    (after (exec (.egressResponse .ok noData) s0)).evq.events.map (fun r => (r.kind, r.aux)) = [(.lateResponse, 2)] := by
  decide +kernel

/-- 11.8: the oldest entry times out, and the next one's limit has passed too, so both go in one event. -/
theorem test_timeouts :
    let s := { s0 with eg := ⟨[entryOf (.passRead 0) (some 10), entryOf (.passWrite 1) (some 20)], 0, some 50⟩ }
    let t := after (exec .responseTimeout { s with mp := { s.mp with responseLimit := 80 } })
    t.eg = ⟨[], 2, none⟩ ∧ t.evq.events.map (fun r => (r.kind, r.aux)) = [(.memoryTimeout, 1), (.memoryTimeout, 2)] := by
  decide +kernel

theorem test_drain_expiry :
    let t := after (exec .drainTimerExpiry (withOpen (draining 50 .discard)))
    (t.win 0).state = .draining .forced ∧ t.ctx 0 = .free ∧ (t.win 0).counters.dropped = 1 ∧
    t.evq.events.map (fun r => (r.kind, r.detail, r.aux)) = [(.drainForced, 1, 0), (.contextsDiscarded, 1, 2)] := by
  decide +kernel

/-- The last context of a forced drain leaves, and the program is applied by route 3. -/
theorem test_drain_end :
    let s := (draining 50 .discard).setWinState 0 (.draining .forced)
    let t := after (exec .commitEntry (s.setDrainTimer none))
    (t.win 0).state = .opened ∧ t.pa.stage = [] ∧ t.slotAt 1 = ⟨0, false⟩ ∧
    t.evq.events.map (fun r => (r.kind, r.detail, r.aux)) = [(.programApplied, 1, 3)] ∧
    t.eg.queue.map (fun e => e.work) = [.commit ⟨0, 1, 1, 1, false, true⟩] := by decide +kernel

theorem test_stage :
    let t := after (exec (.stage (frameTail 0x10 (stageArgs prog))) State.reset)
    (t.win 0).state = .opened ∧ (t.win 0).fields = fields ∧ t.mp.port = .responseReady ⟨.ok, [1]⟩ := by decide +kernel

theorem test_flush :
    let t := after (exec (.flush (frameTail 0x12 [0])) (withOpen s0))
    t.ae.commitList = [0] ∧ t.flushOf 0 = ⟨1, 0⟩ ∧ t.mp.port = .responseReady ⟨.accepted, []⟩ := by decide +kernel

theorem test_engine_reset :
    let t := after (exec (.engineReset (frameTail 0x41 [])) (withCommit (withOpen s0) false))
    t.freeCount = 64 ∧ t.mp.port = .responseReady ⟨.ok, [2, 0]⟩ ∧ t.evq.events.map EventRecord.detail = [2] := by
  decide +kernel

theorem test_pop_lost :
    let t := after (exec (.popEvent (frameTail 0x30 [])) (withEvents 32 3))
    t.mp.port = .responseReady ⟨.ok, [3, 2, 0, 0, 1, 0, 5, 0, 0, 0, 6, 0, 0, 0, 1, 0]⟩ ∧ t.evq.lost = 0 ∧
    t.evq.events.getLast?.map (fun r => (r.kind, r.detail)) = some (.eventsLost, 3) := by decide +kernel

theorem test_ident_and_read :
    let t := after (exec (.ident (frameTail 0x01 [])) State.reset)
    t.mp.port = .responseReady ⟨.ok, identBytes⟩ ∧
    (after (exec (.responseRead (.read (List.replicate 24 false))) State.reset)).pins.mdoSent =
      List.replicate 8 false ++ wire [0x0A, 0x00, 0x82] ∧
    (after (exec (.responseRead (.short [true, false])) t)).mp.port = t.mp.port := by decide +kernel

/-- R173: a select period open when the reset ends is not taken, and the next one is. -/
theorem test_open_at_release :
    let s := after (exec .resetRelease (after (exec (.responseRead .begun) (after (exec (.rstAssert 10) s0)))))
    let t := after (exec (.ident (frameTail 0x01 [])) s)
    s.mcsLow = true ∧ t.mcsLow = false ∧ t.mp.port = .idle ∧
    (after (exec (.ident (frameTail 0x01 [])) t)).mp.port = .responseReady ⟨.ok, identBytes⟩ := by decide +kernel

/-- R197: a select period that ends in the second reset is not waited for after it. -/
theorem test_closed_before_release :
    let next : List Instr → State → State := fun l s => l.foldl (fun t c => after (exec c t)) s
    let s := next [.rstAssert 10, .responseRead .begun, .resetRelease, .rstAssert 10, .responseRead (.short []),
      .resetRelease] s0
    let stillOpen := next [.rstAssert 10, .responseRead .begun, .resetRelease, .rstAssert 10, .resetRelease] s0
    s.mcsLow = false ∧ stillOpen.mcsLow = true ∧
    (after (exec (.ident (frameTail 0x01 [])) s)).mp.port = .responseReady ⟨.ok, identBytes⟩ := by decide +kernel

/-- R201's levels: low for READ and OK, high for WRITE and ERROR, back and forth. -/
theorem test_levels :
    LinkKind.read.level = false ∧ LinkKind.write.level = true ∧ LinkStatus.ok.level = false ∧
    LinkStatus.error.level = true ∧ (∀ b, (LinkKind.ofLevel b).level = b) ∧ ∀ b, (LinkStatus.ofLevel b).level = b := by
  decide

theorem test_egress_pins :
    let e : EgressEntry := ⟨.passWrite 0, 0x41, 2, [5, 6], [true, false], none⟩
    (withQueue s0 [e]).egqPins = some ⟨true, 0x41, 2, ((noData.set 1 5).set 2 6), 0x2⟩ ∧ s0.egqPins = none := by
  decide +kernel

theorem test_pool_and_window_replies :
    s0.poolBytes = [64, 0, 0, 0, 0, 0, 0, 0, 0] ∧ (loaded.windowBytes 0).length = 52 ∧
    (loaded.windowBytes 0).take 2 = [0, 0x01] ∧ ((loaded.windowBytes 0).drop 21).take 4 = [1, 1, 1, 3] := by decide +kernel

theorem test_resets :
    (after (exec (.powerOnReset 1000) s0)).hold = .held 24 ∧
    (after (exec .timebaseTick (after (exec (.powerOnReset 1000) s0)))).hold = .held 0 ∧
    (after (exec .resetRelease (after (exec (.rstAssert 10) s0)))).hold = .running ∧
    ((after (exec (.rstAssert 10) s0)).win 0).state = .disabled := by decide +kernel

end Sys2Proof.Tests
end

/-! PROOF. What an event does to the samples that the contexts hold: the counters of a window owe what its contexts hold
(R36), and every operation that leaves the programs alone keeps the difference. -/

namespace Sys2Proof.Machine

/-! ### Reading the pool -/

/-- A window holds a context when some context of the pool is in it. -/
theorem State.holdsContexts_iff (s : State) (w : Fin 16) :
    s.holdsContexts w = true ↔ ∃ i, (s.ctx i).inWindow w = true := by
  simp only [State.holdsContexts, List.any_eq_true, Vector.mem_toList_iff, Vector.mem_iff_getElem]
  constructor
  · rintro ⟨_, ⟨i, hi, rfl⟩, h⟩
    exact ⟨⟨i, hi⟩, h⟩
  · rintro ⟨i, h⟩
    exact ⟨_, ⟨i.val, i.isLt, rfl⟩, h⟩

theorem State.holdsContexts_false_iff (s : State) (w : Fin 16) :
    s.holdsContexts w = false ↔ ∀ i, (s.ctx i).inWindow w = false := by
  rw [← Bool.not_eq_true, State.holdsContexts_iff]
  simp

/-- A lookup finds something when some context is the OPEN one of the key (R40). -/
theorem State.lookup_isSome_iff (s : State) (w : Fin 16) (slot : Nat) :
    (s.lookup w slot).isSome = true ↔ ∃ i, (s.ctx i).isKey w slot = true := by
  simp [State.lookup]

theorem State.ctx_of_set {s t : State} {i : Fin 64} {c : Context} (h : t.ae.pool = s.ae.pool.set i.val c) (j : Fin 64) :
    t.ctx j = if i = j then c else s.ctx j := by
  simp only [State.ctx, h, Vector.getElem_set, Fin.ext_iff]

theorem Context.inWindow_of_acc {c : Context} {a : Accum} (h : c.acc? = some a) (w : Fin 16) :
    c.inWindow w = decide (a.window = w) := by
  simp [Context.inWindow, h]

theorem Context.countIn_of_acc {c : Context} {a : Accum} (h : c.acc? = some a) (w : Fin 16) :
    c.countIn w = if a.window = w then a.count else 0 := by
  simp [Context.countIn, h]

@[simp] theorem Context.inWindow_free (w : Fin 16) : Context.free.inWindow w = false := rfl

@[simp] theorem Context.countIn_free (w : Fin 16) : Context.free.countIn w = 0 := rfl

/-- A context outside a window adds nothing to what the window holds (R36). -/
theorem Context.countIn_of_not_inWindow {c : Context} {w : Fin 16} (h : c.inWindow w = false) : c.countIn w = 0 := by
  cases hc : c.acc? with
  | none => simp [Context.countIn, hc]
  | some a =>
    have ha : a.window ≠ w := by simpa [Context.inWindow_of_acc hc] using h
    simp [Context.countIn_of_acc hc, ha]

/-- A window without contexts holds no samples (R36). -/
theorem State.heldCount_of_empty {s : State} {w : Fin 16} (h : s.holdsContexts w = false) : s.heldCount w = 0 := by
  have hall : ∀ c ∈ s.ae.pool.toList, c.countIn w = 0 := fun c hc =>
    Context.countIn_of_not_inWindow (by simpa using List.any_eq_false.1 h c hc)
  exact List.sum_eq_zero (by simpa [← Vector.mem_toList_iff] using hall)

/-- One element of a list replaced, in a sum over the list; said without subtraction. -/
theorem sum_map_set {α : Type} (f : α → Nat) (l : List α) (i : Nat) (h : i < l.length) (x : α) :
    ((l.set i x).map f).sum + f l[i] = (l.map f).sum + f x := by
  induction l generalizing i with
  | nil => simp at h
  | cons y l ih =>
    cases i with
    | zero => simp; omega
    | succ i =>
      have := ih i (by simpa using h)
      simp only [List.set_cons_succ, List.map_cons, List.sum_cons, List.getElem_cons_succ]
      omega

/-- One context replaced: its share of what a window holds is replaced (R36). -/
theorem State.heldCount_of_set {s t : State} {i : Fin 64} {c : Context} (h : t.ae.pool = s.ae.pool.set i.val c)
    (w : Fin 16) : t.heldCount w + (s.ctx i).countIn w = s.heldCount w + c.countIn w := by
  simpa [State.heldCount, h, State.ctx, Vector.toList_set] using
    sum_map_set (Context.countIn · w) s.ae.pool.toList i.val (by simp) c

theorem State.heldCount_of_pool {s t : State} (h : t.ae.pool = s.ae.pool) : t.heldCount = s.heldCount := by
  funext w; simp [State.heldCount, h]

/-! ### What the counters owe the pool -/

/-- The samples that a window's counters say its contexts still hold: absorbed, and neither committed nor dropped
(R32 to R34). -/
def State.owed (s : State) (w : Fin 16) : BitVec 32 :=
  (s.win w).counters.absorbed - (s.win w).counters.committedSamples - (s.win w).counters.dropped

/-- The conservation law of a window says that what is owed is held (R36). -/
theorem balanced_iff (s : State) (w : Fin 16) : Balanced s w ↔ s.owed w = BitVec.ofNat 32 (s.heldCount w) := by
  simp only [Balanced, State.owed]
  constructor <;> intro h
  · rw [h]; abel
  · rw [← h]; abel

theorem State.owed_of_wt {s t : State} (h : t.wt = s.wt) : t.owed = s.owed := by
  funext w; simp [State.owed, State.win, h]

theorem State.owed_count (s : State) (w v : Fin 16) (f : Counters → Counters) :
    (s.count w f).owed v =
      if w = v then (f (s.win w).counters).absorbed - (f (s.win w).counters).committedSamples -
        (f (s.win w).counters).dropped else s.owed v := by
  simp only [State.owed, State.count, State.win_setWin]
  split <;> rfl

/-- A count of samples dropped is owed no longer (R34). -/
theorem State.owed_drop (s : State) (w v : Fin 16) (n : Nat) :
    (s.drop w n).owed v + (if w = v then BitVec.ofNat 32 n else 0) = s.owed v := by
  rw [State.drop, State.owed_count]
  split
  · rename_i h
    subst h
    simp only [State.owed]
    abel
  · simp

/-! ### Events that leave the programs alone -/

/-- From `s` to `t` no program, window state or sample gets lost: the windows keep their fields and states, what the
counters owe changes with what the pool holds (R36), and only a window that decodes is given a context (R25). -/
structure Carries (s t : State) : Prop where
  shape : t.shape = s.shape
  gap : ∀ w, t.owed w + BitVec.ofNat 32 (s.heldCount w) = s.owed w + BitVec.ofNat 32 (t.heldCount w)
  holds : ∀ w, t.holdsContexts w = true → s.holdsContexts w = true ∨ (s.win w).decodes = true

/-- Whether a window decodes is read from its state. -/
theorem State.decodes_of_shape {s t : State} (h : t.shape = s.shape) (w : Fin 16) :
    (t.win w).decodes = (s.win w).decodes := by
  have hw : (t.win w).state = (s.win w).state := congrArg Prod.snd (congrFun h w)
  simp only [Window.decodes, hw]

theorem State.fields_of_shape {s t : State} (h : t.shape = s.shape) (w : Fin 16) :
    (t.win w).fields = (s.win w).fields := congrArg Prod.fst (congrFun h w)

theorem Carries.of_frame {s t : State} (hw : t.wt = s.wt) (hp : t.ae.pool = s.ae.pool) : Carries s t where
  shape := State.shape_of_wt _ _ hw
  gap w := by rw [State.owed_of_wt hw, State.heldCount_of_pool hp]
  holds w h := Or.inl (by rwa [State.holdsContexts_of_pool hp] at h)

theorem Carries.refl (s : State) : Carries s s := .of_frame rfl rfl

theorem Carries.trans {s t u : State} (h : Carries s t) (g : Carries t u) : Carries s u where
  shape := g.shape.trans h.shape
  gap w := by
    have hs := h.gap w
    have ht := g.gap w
    generalize BitVec.ofNat 32 (s.heldCount w) = a at *
    generalize BitVec.ofNat 32 (t.heldCount w) = b at *
    have hu : u.owed w = t.owed w + BitVec.ofNat 32 (u.heldCount w) - b := by rw [← ht]; abel
    have hs' : t.owed w = s.owed w + b - a := by rw [← hs]; abel
    rw [hu, hs']
    abel
  holds w hu := by
    rcases g.holds w hu with ht | hd
    · exact h.holds w ht
    · exact Or.inr (by rwa [State.decodes_of_shape h.shape] at hd)

theorem State.setCommitList_carries (s : State) (l : List (Fin 64)) : Carries s (s.setCommitList l) := .of_frame rfl rfl

theorem State.record_carries (s : State) (k : EventKind) (w : Option (Fin 16)) (slot : Option Nat) (d : BitVec 32)
    (n : Nat) : Carries s (s.record k w slot d n) := .of_frame rfl rfl

/-- One context replaced: what is owed changes by what the replacement changes in the pool, and a context in a window
that had none there needs the window to decode. -/
theorem Carries.of_set {s t : State} {i : Fin 64} {c : Context} (hp : t.ae.pool = s.ae.pool.set i.val c)
    (hs : t.shape = s.shape)
    (hg : ∀ w, t.owed w + BitVec.ofNat 32 ((s.ctx i).countIn w) = s.owed w + BitVec.ofNat 32 (c.countIn w))
    (hin : ∀ w, c.inWindow w = true → (s.ctx i).inWindow w = true ∨ (s.win w).decodes = true) : Carries s t where
  shape := hs
  gap w := by
    have hc := congrArg (BitVec.ofNat 32) (State.heldCount_of_set hp w)
    simp only [BitVec.ofNat_add] at hc
    have ho := hg w
    generalize BitVec.ofNat 32 ((s.ctx i).countIn w) = x at *
    generalize BitVec.ofNat 32 (c.countIn w) = y at *
    have ho' : t.owed w = s.owed w + y - x := by rw [← ho]; abel
    have hc' : BitVec.ofNat 32 (t.heldCount w) = BitVec.ofNat 32 (s.heldCount w) + y - x := by rw [← hc]; abel
    rw [ho', hc']
    abel
  holds w hw := by
    obtain ⟨j, hj⟩ := (State.holdsContexts_iff t w).1 hw
    rw [State.ctx_of_set hp] at hj
    split at hj
    · rcases hin w hj with h | h
      · exact Or.inl ((State.holdsContexts_iff s w).2 ⟨i, h⟩)
      · exact Or.inr h
    · exact Or.inl ((State.holdsContexts_iff s w).2 ⟨j, hj⟩)

/-- A context leaves the pool and its samples are owed no longer (R33, R34). -/
theorem Carries.of_leave {s t : State} {i : Fin 64} {a : Accum} (ha : (s.ctx i).acc? = some a)
    (hp : t.ae.pool = s.ae.pool.set i.val .free) (hs : t.shape = s.shape)
    (ho : ∀ w, t.owed w + (if a.window = w then BitVec.ofNat 32 a.count else 0) = s.owed w) : Carries s t := by
  refine .of_set hp hs (fun w => ?_) (fun w hw => by simp at hw)
  rw [Context.countIn_of_acc ha, ← ho w]
  split <;> simp

/-! ### Completions -/

/-- A completion keeps the count in a COMMITTING context, or drops it when it is withheld (R45, R91). -/
theorem State.complete_carries (s : State) (i : Fin 64) (p f : Bool) : Carries s (s.complete i p f) := by
  cases hc : s.ctx i with
  | free => rw [State.complete_not_open s i p f (by simp [hc, Context.isOpen])]; exact .refl s
  | committing c => rw [State.complete_not_open s i p f (by simp [hc, Context.isOpen])]; exact .refl s
  | opened a =>
    have ha : (s.ctx i).acc? = some a := by rw [hc]; rfl
    have hs : (s.complete i p f).shape = s.shape := by simp
    rcases State.complete_open s i a p f hc _ rfl with ⟨-, hae, hw⟩ | ⟨-, hae, hwt⟩
    · refine .of_leave ha (by rw [hae]) hs fun w => ?_
      simp only [State.owed, hw w]
      split
      · dsimp only
        abel
      · simp
    · refine .of_set (by rw [hae]) hs (fun w => ?_) fun w hw => Or.inl ?_
      · rw [State.owed_of_wt hwt]
        simp [Context.countIn, hc, Context.acc?, completedOf]
      · simpa [Context.inWindow, hc, Context.acc?, completedOf] using hw

theorem State.completeAll_carries (s : State) (l : List (Fin 64)) (p f : Bool) : Carries s (s.completeAll l p f) :=
  State.completeAll_induct (Carries s) p f (fun t i h => h.trans (t.complete_carries i p f)) l s (.refl s)

theorem State.completeIfFull_carries (s : State) (w : Fin 16) (slot : Nat) : Carries s (s.completeIfFull w slot) := by
  unfold State.completeIfFull
  repeat' split
  · exact s.complete_carries _ false false
  all_goals exact .refl s

theorem State.completeFull_carries (s : State) (w : Fin 16) (l : List (Nat × BitVec 48)) :
    Carries s (s.completeFull w l) := by
  unfold State.completeFull
  induction l generalizing s with
  | nil => exact .refl s
  | cons x xs ih => exact (s.completeIfFull_carries w x.1).trans (ih _)

/-! ### Contexts that leave -/

/-- A KEEP discard drops the samples of the context it frees (R105). -/
theorem State.keepDiscard_carries (s : State) (i : Fin 64) (c : Completed) (h : s.ctx i = .committing c) :
    Carries s (s.keepDiscard i c) := by
  have ha : (s.ctx i).acc? = some c.acc := by rw [h]; rfl
  refine .of_leave ha (by simp [State.keepDiscard]) (by simp) fun w => ?_
  have hw : (s.keepDiscard i c).wt =
      ((s.count c.acc.window (fun x => { x with overruns := x.overruns + 1 })).drop c.acc.window c.acc.count).wt := by
    simp [State.keepDiscard]
  rw [State.owed_of_wt hw, State.owed_drop, State.owed_count]
  split
  · rename_i h; subst h; rfl
  · rfl

theorem keepTests_carries (n : Nat) (s : State) : Carries s (keepTests n s) :=
  keepTests_induct (Carries s)
    (fun t i rest c _ hc _ h => (h.trans (t.setCommitList_carries rest)).trans
      (State.keepDiscard_carries (t.setCommitList rest) i c hc))
    n s (.refl s)

/-- A KEEP run carries (R105). -/
theorem State.keepRun_carries (s : State) : Carries s s.keepRun := keepTests_carries _ s

/-- A grant counts the samples of the context it frees as committed (R33, R103). -/
theorem State.grantCommit_carries (s : State) (i : Fin 64) (c : Completed) (h : s.ctx i = .committing c) :
    Carries s (s.grantCommit i c) := by
  have ha : (s.ctx i).acc? = some c.acc := by rw [h]; rfl
  have hp : (s.grantCommit i c).ae.pool = s.ae.pool.set i.val .free := by
    unfold State.grantCommit
    dsimp only
    split <;> simp
  refine .of_leave ha hp (by simp) fun w => ?_
  have hw : (s.grantCommit i c).wt = (s.count c.acc.window (fun x =>
      { x with
        overruns := if (s.slotAt (s.slotIndex c.acc.window c.acc.slot)).unread then x.overruns + 1 else x.overruns
        committedRecords := x.committedRecords + 1
        committedSamples := x.committedSamples + BitVec.ofNat 32 c.acc.count })).wt := by
    unfold State.grantCommit
    dsimp only
    split <;> simp [State.win]
  rw [State.owed_of_wt hw, State.owed_count]
  split
  · rename_i h
    subst h
    simp only [State.owed]
    abel
  · simp

/-- A discard drops the samples of the context it frees (R61). -/
theorem State.discard_carries (s : State) (w : Fin 16) (i : Fin 64) : Carries s (s.discard w i) := by
  unfold State.discard
  split
  · rename_i a ha
    split
    · rename_i hw
      subst hw
      exact .of_leave ha rfl (by simp) fun v => State.owed_drop (s.setCtx i .free) a.window v a.count
    · exact .refl s
  · exact .refl s

theorem foldl_discard_carries (l : List (Fin 64)) (s : State) (w : Fin 16) :
    Carries s (l.foldl (fun t i => t.discard w i) s) := by
  induction l generalizing s with
  | nil => exact .refl s
  | cons i l ih => exact (s.discard_carries w i).trans (ih _)

theorem State.cutOver_carries (s : State) (w : Fin 16) : Carries s (s.cutOver w) := by
  unfold State.cutOver
  dsimp only
  refine .trans ?_ (State.keepRun_carries _)
  have hd := foldl_discard_carries (List.finRange 64)
    (s.setCommitList (s.ae.commitList.filter (fun i => !(s.ctx i).inWindow w))) w
  refine ((s.setCommitList_carries _).trans hd).trans (.of_frame ?_ ?_) <;> simp

/-! ### The cut-over leaves no context in its window -/

/-- A discard frees its context if that is one of the window, and no other. -/
theorem State.ctx_discard (s : State) (w : Fin 16) (i j : Fin 64) :
    (s.discard w i).ctx j = if i = j ∧ (s.ctx i).inWindow w = true then .free else s.ctx j := by
  unfold State.discard
  cases ha : (s.ctx i).acc? with
  | none => simp [Context.inWindow, ha]
  | some a =>
    by_cases hw : a.window = w
    · simp [Context.inWindow, ha, hw, State.ctx_setCtx]
    · simp [Context.inWindow, ha, hw]

/-- A discard puts no context into a window. -/
theorem State.discard_leaves_empty (s : State) (w v : Fin 16) (i j : Fin 64) (h : (s.ctx j).inWindow v = false) :
    ((s.discard w i).ctx j).inWindow v = false := by
  rw [State.ctx_discard]
  split
  · rfl
  · exact h

/-- Contexts discarded one after another: each one named is out of the window. -/
theorem foldl_discard_empties (l : List (Fin 64)) (s : State) (w : Fin 16) (j : Fin 64)
    (h : j ∈ l ∨ (s.ctx j).inWindow w = false) :
    ((l.foldl (fun t i => t.discard w i) s).ctx j).inWindow w = false := by
  induction l generalizing s with
  | nil => simpa using h
  | cons i l ih =>
    refine ih _ ?_
    rcases h with h | h
    · rcases List.mem_cons.1 h with rfl | h
      · right
        rw [State.ctx_discard]
        by_cases hw : (s.ctx j).inWindow w = true
        · simp [hw]
        · simp [hw]
      · exact Or.inl h
    · exact Or.inr (s.discard_leaves_empty w w i j h)

/-- A KEEP run puts no context into a window (R105). -/
theorem State.keepRun_leaves_empty (s : State) (w : Fin 16) (h : s.holdsContexts w = false) :
    s.keepRun.holdsContexts w = false := by
  refine State.keepRun_induct (fun t => t.holdsContexts w = false) (fun t i rest c _ _ _ ht => ?_) s h
  have hp : ((t.setCommitList rest).keepDiscard i c).ae.pool = t.ae.pool.set i.val .free := by
    simp [State.keepDiscard]
  rw [State.holdsContexts_false_iff] at ht ⊢
  intro j
  rw [State.ctx_of_set hp]
  split
  · rfl
  · exact ht j

/-- After a cut-over the window has no context (R61, R148). -/
theorem State.cutOver_empties (s : State) (w : Fin 16) : (s.cutOver w).holdsContexts w = false := by
  unfold State.cutOver
  dsimp only
  refine State.keepRun_leaves_empty _ w ?_
  rw [State.holdsContexts_false_iff]
  intro j
  have hp (t : State) (n : Nat) : (t.flushDiscard w n).ctx = t.ctx := State.ctx_of_pool (by simp)
  rw [hp, State.record_ctx]
  exact foldl_discard_empties (List.finRange 64) _ w j (Or.inl (List.mem_finRange j))

end Sys2Proof.Machine

/-! PROOF. The absorption of a sample write (R41 to R43): with room in the pool every touched slot has an OPEN context, so
that every sample that is counted as absorbed is held. -/

namespace Sys2Proof.Machine

/-! ### Allocation: every touched slot is given an OPEN context (R42) -/

theorem State.allocate_of_lookup {s : State} {w : Fin 16} {slot : Nat} (h : (s.lookup w slot).isSome = true) :
    s.allocate w slot = s := by
  obtain ⟨i, hi⟩ := Option.isSome_iff_exists.1 h
  simp [State.allocate, hi]

/-- The context an allocation gives to a key. -/
def freshContext (w : Fin 16) (slot : Nat) (now : Time) : Context :=
  .opened { window := w, slot := slot, sum := 0, count := 0, lastSampleTime := now }

theorem State.firstFree_some {s : State} {i : Fin 64} (h : s.firstFree = some i) : s.ctx i = .free := by
  have hi : (s.ctx i).isFree = true := List.find?_some (p := fun i => (s.ctx i).isFree) h
  cases hc : s.ctx i <;> simp_all [Context.isFree]

theorem State.firstFree_none {s : State} (h : s.firstFree = none) : s.freeCount = 0 := by
  have hall (i : Fin 64) : (s.ctx i).isFree = false := by
    simpa using List.find?_eq_none.1 h i (List.mem_finRange i)
  rw [State.freeCount, List.countP_eq_zero]
  intro c hc
  obtain ⟨i, hi, rfl⟩ := Vector.mem_iff_getElem.1 (Vector.mem_toList_iff.1 hc)
  simpa [State.ctx] using hall ⟨i, hi⟩

/-- What an allocation does: nothing for a key that is OPEN, or with no FREE context; else a FREE context is given. -/
theorem State.allocate_cases (s : State) (w : Fin 16) (slot : Nat) :
    (s.allocate w slot = s ∧ ((s.lookup w slot).isSome = true ∨ s.freeCount = 0)) ∨
    ((s.lookup w slot).isSome = false ∧ ∃ i, s.ctx i = .free ∧
      s.allocate w slot = s.setCtx i (freshContext w slot s.mp.timebase)) := by
  cases hl : s.lookup w slot with
  | some i => exact Or.inl ⟨State.allocate_of_lookup (by simp [hl]), Or.inl rfl⟩
  | none =>
    cases hf : s.firstFree with
    | none => exact Or.inl ⟨by simp [State.allocate, hl, hf], Or.inr (State.firstFree_none hf)⟩
    | some i => exact Or.inr ⟨rfl, i, State.firstFree_some hf, by simp [State.allocate, hl, hf, freshContext]⟩

theorem State.allocate_carries (s : State) (w : Fin 16) (slot : Nat) (hd : (s.win w).decodes = true) :
    Carries s (s.allocate w slot) := by
  rcases s.allocate_cases w slot with ⟨h, -⟩ | ⟨-, i, hi, h⟩
  · rw [h]; exact .refl s
  · rw [h]
    refine .of_set rfl (by simp) (fun v => ?_) fun v hv => Or.inr ?_
    · rw [hi]
      simp [Context.countIn, Context.acc?, freshContext, State.owed]
    · have : w = v := by simpa [Context.inWindow, Context.acc?, freshContext] using hv
      rwa [← this]

theorem State.allocateAll_carries (s : State) (w : Fin 16) (l : List (Nat × BitVec 48))
    (hd : (s.win w).decodes = true) : Carries s (s.allocateAll w l) := by
  unfold State.allocateAll
  induction l generalizing s with
  | nil => exact .refl s
  | cons p l ih =>
    have hs : (s.allocate w p.1).shape = s.shape := by simp
    exact (s.allocate_carries w p.1 hd).trans (ih _ (by rwa [State.decodes_of_shape hs]))

/-- An OPEN key stays OPEN through an allocation. -/
theorem State.lookup_allocate_mono (s : State) (w v : Fin 16) (slot k : Nat) (h : (s.lookup v k).isSome = true) :
    ((s.allocate w slot).lookup v k).isSome = true := by
  rcases s.allocate_cases w slot with ⟨hs, -⟩ | ⟨-, i, hi, hs⟩
  · rwa [hs]
  · rw [hs]
    obtain ⟨j, hj⟩ := (State.lookup_isSome_iff ..).1 h
    refine (State.lookup_isSome_iff ..).2 ⟨j, ?_⟩
    rw [State.ctx_setCtx, if_neg (by rintro rfl; simp [hi, Context.isKey] at hj)]
    exact hj

theorem State.lookup_allocateAll_mono (s : State) (w v : Fin 16) (l : List (Nat × BitVec 48)) (k : Nat)
    (h : (s.lookup v k).isSome = true) : ((s.allocateAll w l).lookup v k).isSome = true := by
  unfold State.allocateAll
  induction l generalizing s with
  | nil => exact h
  | cons p l ih => exact ih _ (s.lookup_allocate_mono w v p.1 k h)

/-- With a FREE context in the pool, the slot is given an OPEN context, at the cost of one FREE context at most. -/
theorem State.lookup_allocate_self (s : State) (w : Fin 16) (slot : Nat) (hl : (s.lookup w slot).isSome = false)
    (hf : 0 < s.freeCount) :
    ((s.allocate w slot).lookup w slot).isSome = true ∧ s.freeCount ≤ (s.allocate w slot).freeCount + 1 := by
  rcases s.allocate_cases w slot with ⟨-, h | h⟩ | ⟨-, i, hi, h⟩
  · simp [hl] at h
  · omega
  · rw [h]
    refine ⟨(State.lookup_isSome_iff ..).2 ⟨i, by simp [State.ctx_setCtx, freshContext, Context.isKey]⟩, ?_⟩
    simp only [State.freeCount, State.setCtx_ae, Vector.toList_set]
    rw [List.countP_set (by simp)]
    split <;> omega

/-- With as many FREE contexts as slots without an OPEN context, every slot is given one (R41, R42). -/
theorem State.lookup_allocateAll (s : State) (w : Fin 16) (l : List (Nat × BitVec 48))
    (h : l.countP (fun p => (s.lookup w p.1).isNone) ≤ s.freeCount) :
    ∀ p ∈ l, ((s.allocateAll w l).lookup w p.1).isSome = true := by
  induction l generalizing s with
  | nil => simp
  | cons q l ih =>
    have hq : ((s.allocate w q.1).lookup w q.1).isSome = true ∧
        l.countP (fun p => ((s.allocate w q.1).lookup w p.1).isNone) ≤ (s.allocate w q.1).freeCount := by
      by_cases hl : (s.lookup w q.1).isSome = true
      · rw [State.allocate_of_lookup hl]
        exact ⟨hl, by rwa [List.countP_cons_of_neg (by rw [← Option.not_isSome, hl]; decide)] at h⟩
      · rw [List.countP_cons_of_pos (by simpa using hl)] at h
        obtain ⟨hs, hf⟩ := s.lookup_allocate_self w q.1 (by simpa using hl) (by omega)
        refine ⟨hs, ?_⟩
        have hle : l.countP (fun p => ((s.allocate w q.1).lookup w p.1).isNone) ≤
            l.countP (fun p => (s.lookup w p.1).isNone) := by
          refine List.countP_mono_left fun p _ hp => ?_
          rw [← Option.not_isSome, Bool.not_eq_true'] at hp ⊢
          by_contra hn
          have hm := s.lookup_allocate_mono w w q.1 p.1 (Bool.not_eq_false _ ▸ hn)
          simp [hm] at hp
        omega
    intro p hp
    rcases List.mem_cons.1 hp with rfl | hp
    · exact State.lookup_allocateAll_mono _ w w l p.1 hq.1
    · exact ih _ hq.2 p hp

/-! ### Samples: each one raises one count (R42) -/

/-- What a sample does: to the slot's OPEN context, if it has one, one is added. -/
theorem State.addSample_cases (s : State) (w : Fin 16) (p : Nat × BitVec 48) :
    (s.lookup w p.1 = none ∧ s.addSample w p = s) ∨
    ∃ i a b, s.lookup w p.1 = some i ∧ s.ctx i = .opened a ∧ a.window = w ∧ b.window = a.window ∧ b.slot = a.slot ∧
      b.count = a.count + 1 ∧ s.addSample w p = s.setCtx i (.opened b) := by
  cases hl : s.lookup w p.1 with
  | none => exact Or.inl ⟨rfl, by simp [State.addSample, hl]⟩
  | some i =>
    obtain ⟨a, ha, hw, -⟩ := State.lookup_some hl
    exact Or.inr ⟨i, a, { a with sum := a.sum + p.2, count := a.count + 1, lastSampleTime := s.mp.timebase }, rfl, ha, hw,
      rfl, rfl, rfl, by simp [State.addSample, hl, ha]⟩

theorem State.lookup_addSample (s : State) (w : Fin 16) (p : Nat × BitVec 48) :
    (s.addSample w p).lookup = s.lookup := by
  rcases s.addSample_cases w p with ⟨-, h⟩ | ⟨i, a, b, -, ha, -, hw, hs, -, h⟩
  · rw [h]
  · have hk (j : Fin 64) (v : Fin 16) (k : Nat) : ((s.addSample w p).ctx j).isKey v k = (s.ctx j).isKey v k := by
      rw [h, State.ctx_setCtx]
      split
      · rename_i hij
        rw [← hij, ha]
        simp [Context.isKey, hw, hs]
      · rfl
    funext v k
    simp only [State.lookup, hk]

theorem State.heldCount_addSample (s : State) (w v : Fin 16) (p : Nat × BitVec 48)
    (hl : (s.lookup w p.1).isSome = true) :
    (s.addSample w p).heldCount v = s.heldCount v + if w = v then 1 else 0 := by
  rcases s.addSample_cases w p with ⟨h, -⟩ | ⟨i, a, b, -, ha, haw, hw, -, hc, h⟩
  · simp [h] at hl
  · have hset := State.heldCount_of_set (s := s) (t := s.addSample w p) (c := .opened b) (by rw [h]; rfl) v
    rw [ha, Context.countIn_of_acc rfl, Context.countIn_of_acc rfl, hw, hc, haw] at hset
    split <;> simp_all
    omega

theorem State.holdsContexts_addSample (s : State) (w v : Fin 16) (p : Nat × BitVec 48) :
    (s.addSample w p).holdsContexts v = s.holdsContexts v := by
  rcases s.addSample_cases w p with ⟨-, h⟩ | ⟨i, a, b, -, ha, -, hw, -, -, h⟩
  · rw [h]
  · have hj (j : Fin 64) : ((s.addSample w p).ctx j).inWindow v = (s.ctx j).inWindow v := by
      rw [h, State.ctx_setCtx]
      split
      · rename_i hij
        rw [← hij, ha, Context.inWindow_of_acc rfl, Context.inWindow_of_acc rfl, hw]
      · rfl
    rw [Bool.eq_iff_iff, State.holdsContexts_iff, State.holdsContexts_iff]
    simp only [hj]

/-- The samples of a write whose slots all have an OPEN context: the window holds as many more (R42). -/
theorem State.heldCount_addAll (s : State) (w v : Fin 16) (l : List (Nat × BitVec 48))
    (h : ∀ p ∈ l, (s.lookup w p.1).isSome = true) :
    (s.addAll w l).heldCount v = s.heldCount v + if w = v then l.length else 0 := by
  unfold State.addAll
  induction l generalizing s with
  | nil => simp
  | cons p l ih =>
    have hp := s.heldCount_addSample w v p (h p (by simp))
    have hl := ih (s.addSample w p) fun q hq => by rw [State.lookup_addSample]; exact h q (by simp [hq])
    rw [List.foldl_cons, hl, hp]
    split <;> simp
    omega

theorem State.holdsContexts_addAll (s : State) (w v : Fin 16) (l : List (Nat × BitVec 48)) :
    (s.addAll w l).holdsContexts v = s.holdsContexts v := by
  unfold State.addAll
  induction l generalizing s with
  | nil => rfl
  | cons p l ih => exact (ih _).trans (s.holdsContexts_addSample w v p)

@[simp] theorem State.heldCount_count (s : State) (w : Fin 16) (f : Counters → Counters) :
    (s.count w f).heldCount = s.heldCount := rfl

@[simp] theorem State.holdsContexts_count (s : State) (w : Fin 16) (f : Counters → Counters) :
    (s.count w f).holdsContexts = s.holdsContexts := rfl

/-- Samples added and counted as absorbed, every slot having an OPEN context (R32, R42). -/
theorem State.addAll_count_carries (s : State) (w : Fin 16) (l : List (Nat × BitVec 48))
    (h : ∀ p ∈ l, (s.lookup w p.1).isSome = true) :
    Carries s ((s.addAll w l).count w (fun c => { c with absorbed := c.absorbed + BitVec.ofNat 32 l.length })) where
  shape := by simp
  gap v := by
    have hwt : (s.addAll w l).wt = s.wt := by simp
    rw [State.owed_count, State.owed_of_wt hwt, State.heldCount_count,
      State.heldCount_addAll s w v l h]
    split
    · rename_i hv
      subst hv
      simp only [State.owed, State.win, hwt, BitVec.ofNat_add]
      abel
    · simp
  holds v hv := Or.inl (by
    rwa [State.holdsContexts_count, State.holdsContexts_addAll] at hv)

/-- An absorption carries, when the window decodes and the pool has room (R41 to R43). -/
theorem State.absorb_carries (s : State) (w : Fin 16) (l : List (Nat × BitVec 48)) (hd : (s.win w).decodes = true)
    (h : l.countP (fun p => (s.lookup w p.1).isNone) ≤ s.freeCount) : Carries s (s.absorb w l) :=
  ((s.allocateAll_carries w l hd).trans
    (State.addAll_count_carries _ w l (s.lookup_allocateAll w l h))).trans (State.completeFull_carries _ w l)

end Sys2Proof.Machine

/-! PROOF. What a step can do to the windows and the pool, said once: four kinds of change, and every row is a run of
them. -/

namespace Sys2Proof.Machine

/-! ### What an event can do to the windows and the pool -/

/-- One change of the windows and the pool. -/
inductive State.Move (s : State) : State → Prop where
  /-- Programs and window states stay, and every sample is accounted for. -/
  | carries {t : State} (h : Carries s t) : State.Move s t
  /-- A program that passes the comparison is applied to a window without contexts (R28, R151). -/
  | applied (p : Program) (rest : List Program) (route : Nat) (hc : s.conflict p = none)
      (hn : (s.win p.window).decodes = false ∨ s.holdsContexts p.window = false) : State.Move s (s.applyProgram p rest route)
  /-- A window that is not DISABLED is OPEN or DRAINING by its program (R26, R27). -/
  | restated (w : Fin 16) (x : WState) (hw : (s.win w).decodes = true) (hx : x ≠ .disabled) :
      State.Move s (s.setWinState w x)
  /-- A reset: every context is FREE, every counter 0, and no window decodes by a program it did not have (R37, R64). -/
  | cleared {t : State} (hf : ∀ i, t.ctx i = .free) (hz : ∀ w, (t.win w).counters = Counters.zero)
      (hd : ∀ w, (t.win w).decodes = true → (s.win w).decodes = true ∧ (t.win w).fields = (s.win w).fields) : State.Move s t

/-- Changes of the windows and the pool, one after another. -/
def Moves : State → State → Prop := Relation.ReflTransGen State.Move

theorem Moves.refl {s : State} : Moves s s := Relation.ReflTransGen.refl

theorem Moves.trans {s t u : State} (h : Moves s t) (g : Moves t u) : Moves s u := Relation.ReflTransGen.trans h g

theorem State.Move.moves {s t : State} (h : State.Move s t) : Moves s t := Relation.ReflTransGen.single h

/-- What one change keeps, an event keeps. -/
theorem Moves.keeps {P : State → Prop} (one : ∀ s t, State.Move s t → P s → P t) {s t : State} (h : Moves s t)
    (hs : P s) : P t := by
  induction h with
  | refl => exact hs
  | tail _ hm ih => exact one _ _ hm ih

theorem Carries.moves {s t : State} (h : Carries s t) : Moves s t := (State.Move.carries h).moves

theorem Moves.of_frame {s t : State} (hw : t.wt = s.wt) (hp : t.ae.pool = s.ae.pool) : Moves s t :=
  (Carries.of_frame hw hp).moves

/-! ### Programs -/

/-- A window given the state it has. -/
theorem State.setWinState_self (s : State) (w : Fin 16) : (s.setWinState w (s.win w).state).wt = s.wt :=
  Vector.set_getElem_self ..

/-- A DRAINING window decodes (R4). -/
theorem Window.decodes_of_isDraining {x : Window} (h : x.state.isDraining = true) : x.decodes = true := by
  cases hx : x.state <;> simp_all [WState.isDraining, Window.decodes]

/-- A rejection writes one window: a DRAINING one returns to OPEN (R150). -/
theorem State.rejectProgram_wt_eq (s : State) (p : Program) (rest : List Program) (cause : Nat) (v : Fin 16) :
    (s.rejectProgram p rest cause v).wt = (s.setWinState p.window
      (if (s.win p.window).state.isDraining then .opened else (s.win p.window).state)).wt := by
  simp [State.rejectProgram]

theorem State.rejectProgram_moves (s : State) (p : Program) (rest : List Program) (cause : Nat) (v : Fin 16) :
    Moves s (s.rejectProgram p rest cause v) := by
  have hw := s.rejectProgram_wt_eq p rest cause v
  split at hw
  · rename_i hd
    exact (State.Move.restated p.window .opened (Window.decodes_of_isDraining hd) (by simp)).moves.trans
      (.of_frame hw (by simp))
  · exact .of_frame (hw.trans (s.setWinState_self p.window)) (by simp)

theorem State.applyHead_moves (s : State) (p : Program) (rest : List Program) (route : Nat)
    (hn : (s.win p.window).decodes = false ∨ s.holdsContexts p.window = false) : Moves s (s.applyHead p rest route) := by
  unfold State.applyHead
  split
  · exact s.rejectProgram_moves p rest _ _
  · rename_i hc
    exact (State.Move.applied p rest route hc hn).moves

theorem State.startDrain_moves (s : State) (w : Fin 16) (hd : (s.win w).decodes = true) : Moves s (s.startDrain w) :=
  (State.Move.restated w (.draining .normal) hd (by simp)).moves.trans (.of_frame rfl rfl)

/-- Head processing applies only to windows without contexts: there are none before, or the cut-over frees them
(R28, R140). -/
theorem processHeads_moves (l : List Program) (s : State) : Moves s (processHeads l s) := by
  refine processHeads_induct (Moves s) (fun t p rest _ hn h => ?_) (fun t p rest _ hd _ h => ?_)
    (fun t p rest _ _ _ h => ?_) l s (.of_frame rfl rfl)
  · exact h.trans (t.applyHead_moves p rest 1 hn)
  · exact h.trans (t.startDrain_moves p.window hd)
  · exact (h.trans (t.cutOver_carries p.window).moves).trans
      (State.applyHead_moves _ p rest 4 (Or.inr (t.cutOver_empties p.window)))

theorem State.finishDrain_moves (s : State) : Moves s s.finishDrain := by
  unfold State.finishDrain
  split
  · exact .refl
  · rename_i p rest _
    split
    · rename_i hc
      obtain ⟨-, hn⟩ : (s.win p.window).state.isDraining = true ∧ s.holdsContexts p.window = false := by
        simpa using hc
      have ht : Moves s (s.setDrainTimer none) := .of_frame rfl rfl
      exact (ht.trans (State.applyHead_moves _ p rest _ (Or.inr hn))).trans (processHeads_moves _ _)
    · exact .refl

theorem State.afterPool_moves (s : State) : Moves s s.afterPool :=
  s.keepRun_carries.moves.trans (State.finishDrain_moves _)

/-! ### Requests -/

/-- A window that answers decodes (R4). -/
theorem State.decode_some {s : State} {a : Nat} {d : Decoded} (h : s.decode a = some d) :
    (s.win d.window).decodes = true := by
  obtain ⟨w, -, hw⟩ := List.exists_of_findSome?_eq_some h
  unfold Window.decode at hw
  split at hw
  · cases hw
  · rename_i hd
    have hdw : d.window = w := by
      repeat' split at hw
      all_goals cases hw
      all_goals rfl
    simpa [hdw] using hd

/-- The window of a sample write decodes (R4, R7). -/
theorem State.sort_sampleWrite_decodes {s : State} {r : Request} {d : Decoded} (h : s.sort r = .sampleWrite d) :
    (s.win d.window).decodes = true := by
  have hf : s.firstCapture r = some d := by
    unfold State.sort at h
    repeat' split at h
    all_goals cases h
    assumption
  obtain ⟨o, ho, hd⟩ := List.exists_of_findSome?_eq_some hf
  obtain ⟨a, -, rfl⟩ := List.mem_map.1 ho
  exact State.decode_some (Option.filter_eq_some_iff.1 hd).1

/-- A spill counts nothing that the conservation law speaks of (R36, R51). -/
theorem State.spill_moves (s : State) (r : Request) (link : Nat) (w : Fin 16) (f k cause : Nat) :
    Moves s (s.spill r link w f k cause) := by
  refine Carries.moves ⟨by simp, fun v => ?_, fun v h => Or.inl h⟩
  have ho : (s.spill r link w f k cause).owed v = s.owed v := by
    have hw : (s.spill r link w f k cause).wt = (s.count w (fun c => { c with spilled := c.spilled + 1 })).wt := rfl
    rw [State.owed_of_wt hw, State.owed_count]
    split
    · rename_i h; subst h; rfl
    · rfl
  rw [ho]
  rfl

/-- A write that is absorbed finds a FREE context for every slot that needs one (R41). -/
theorem State.disposition_absorbed {s : State} {w : Fin 16} {f k : Nat} (h : s.disposition w f k = .absorbed) :
    s.needed w f k ≤ s.freeCount := by
  unfold State.disposition at h
  dsimp only at h
  repeat' split at h
  all_goals first | assumption | cases h

/-- The samples without an OPEN context number what the write needs (R41). -/
theorem State.countP_samplesOf (s : State) (w : Fin 16) (fmt : SampleFormat) (data : List Byte) (f k : Nat) :
    (samplesOf fmt data f k).countP (fun p => (s.lookup w p.1).isNone) = s.needed w f k := by
  simp only [samplesOf, State.needed, touched, List.countP_map]
  rfl

theorem State.takeSamples_moves (s : State) (r : Request) (link : Nat) (d : Decoded) (kept : Option Timer)
    (hd : (s.win d.window).decodes = true) : Moves s (s.takeSamples r link d kept) := by
  unfold State.takeSamples
  dsimp only
  split
  · rename_i ha
    have ht : Moves s ((s.setIntake .opened).rolReady link .ok []) := .of_frame rfl rfl
    refine (ht.trans (Carries.moves (State.absorb_carries _ _ _ hd ?_))).trans (State.afterPool_moves _)
    rw [State.countP_samplesOf]
    exact State.disposition_absorbed ha
  · exact .of_frame rfl rfl
  · exact .of_frame rfl rfl
  · exact s.spill_moves ..

theorem State.classify_moves (s : State) (r : Request) (link : Nat) (kept : Option Timer) :
    Moves s (s.classify r link kept) := by
  unfold State.classify
  split
  · exact .of_frame (by simp) (by simp)
  · exact .of_frame (by simp) (by simp)
  · exact .of_frame (by simp) (by simp)
  · rename_i d hs
    exact s.takeSamples_moves r link d kept (State.sort_sampleWrite_decodes hs)
  · exact .of_frame (by simp) (by simp)

theorem State.release_moves (s : State) : Moves s s.release := by
  unfold State.release
  split
  · exact .refl
  · exact .refl
  · refine .trans ?_ (State.classify_moves ..)
    exact .of_frame rfl rfl

theorem State.settle_moves (before s : State) : Moves s (State.settle before s) := by
  unfold State.settle
  dsimp only
  split
  · exact (s.keepRun_carries.moves.trans (State.finishDrain_moves _)).trans (State.release_moves _)
  · exact s.keepRun_carries.moves

/-! ### The rows of the link, the arbiter and the timers -/

theorem State.present_moves (s : State) (r : Request) : Moves s (s.present r) := by
  unfold State.present
  split
  · refine .trans ?_ (State.classify_moves ..)
    exact .of_frame rfl rfl
  · exact .refl

theorem State.deliver_moves (s : State) : Moves s s.deliver := by
  unfold State.deliver
  repeat' split
  all_goals exact .of_frame rfl rfl

theorem State.holdExpiry_moves (s : State) : Moves s s.holdExpiry := by
  unfold State.holdExpiry
  split
  · split
    · refine .trans ?_ (State.spill_moves ..)
      exact .of_frame rfl rfl
    · exact .refl
  all_goals exact .refl

/-- An idle discard is a discard with its record (R54, R55). -/
theorem State.idleEnd_carries (s : State) (i : Fin 64) (a : Accum) (h : s.ctx i = .opened a) :
    Carries s (s.idleEnd i a) := by
  have hd : s.discard a.window i = (s.setCtx i .free).drop a.window a.count := by
    simp [State.discard, h, Context.acc?]
  unfold State.idleEnd
  split
  · exact s.complete_carries i true false
  · rw [← hd]
    exact (s.discard_carries a.window i).trans (State.record_carries ..)

theorem State.idleExpiry_moves (s : State) (w : Fin 16) (slot : Nat) : Moves s (s.idleExpiry w slot) := by
  unfold State.idleExpiry
  split
  · exact .refl
  · rename_i i _
    split
    · rename_i a ha
      split
      · exact (s.idleEnd_carries i a ha).moves.trans (State.settle_moves ..)
      · exact .refl
    all_goals exact .refl

theorem State.forceContexts_carries (s : State) (w : Fin 16) : Carries s (s.forceContexts w) := by
  unfold State.forceContexts
  split
  · exact s.completeAll_carries ..
  · dsimp only
    split
    · exact foldl_discard_carries ..
    · exact (foldl_discard_carries ..).trans (State.record_carries ..)

theorem State.drainExpiry_moves (s : State) : Moves s s.drainExpiry := by
  unfold State.drainExpiry
  split
  · rename_i p rest t _ _
    split
    · rename_i hc
      dsimp only
      generalize hu : (s.setDrainTimer none).record _ _ _ _ _ = u
      have hsu : Moves s u := hu ▸ .of_frame rfl rfl
      have hf : Carries u (u.forceContexts p.window) := u.forceContexts_carries p.window
      have hd : ((u.forceContexts p.window).win p.window).decodes = true := by
        rw [State.decodes_of_shape hf.shape, ← hu]
        exact Window.decodes_of_isDraining (by rw [State.record_win, State.setDrainTimer_win, hc.1]; rfl)
      exact ((hsu.trans hf.moves).trans (State.Move.restated p.window (.draining .forced) hd (by simp)).moves).trans
        (State.settle_moves ..)
    · exact .refl
  all_goals exact .refl

theorem State.issuePoints_carries (s : State) : Carries s s.issuePoints := .of_frame (by simp) (by simp)

theorem State.afterUnreachable_carries (s : State) : Carries s s.afterUnreachable := by
  unfold State.afterUnreachable
  dsimp only
  refine .trans (.trans (.trans ?_ (keepTests_carries ..)) (State.issuePoints_carries _)) (State.keepRun_carries _)
  exact .of_frame rfl rfl

theorem State.commitEntry_moves (s : State) : Moves s s.commitEntry := by
  unfold State.commitEntry
  split
  · exact .refl
  · rename_i i c hc
    split
    · obtain ⟨-, -, hi, -⟩ := State.commitCandidate_some hc
      have hg := s.grantCommit_carries i c hi
      dsimp only
      split
      · exact (hg.trans (State.afterUnreachable_carries _)).moves.trans (State.settle_moves ..)
      · exact hg.moves.trans (State.settle_moves ..)
    · exact .refl

theorem State.ingressEntry_moves (s : State) : Moves s s.ingressEntry := by
  unfold State.ingressEntry
  split
  · exact .refl
  · exact .refl
  · split
    · exact .of_frame (by simp) (by simp)
    · exact .refl

theorem State.send_frame (s : State) (e : EgressEntry) : (s.send e).wt = s.wt ∧ (s.send e).ae = s.ae := by
  unfold State.send
  dsimp only
  split <;> simp

theorem State.issue_moves (s : State) (ready : Bool) : Moves s (s.issue ready) := by
  unfold State.issue
  split
  · exact .refl
  · rename_i e _
    obtain ⟨hw, ha⟩ := s.send_frame e
    split
    · exact .of_frame (by simp) (by simp)
    · split
      · exact .of_frame (by simpa using hw) (by simp [ha])
      · exact .refl

theorem State.memoryResponse_moves (s : State) (st : LinkStatus) (d : Lanes) : Moves s (s.memoryResponse st d) := by
  unfold State.memoryResponse
  repeat' split
  all_goals exact .of_frame (by simp) (by simp)

theorem State.responseExpiry_moves (s : State) : Moves s s.responseExpiry := by
  unfold State.responseExpiry
  repeat' split
  all_goals exact .of_frame (by simp) (by simp)

end Sys2Proof.Machine

/-! PROOF. The rows of the management port, the resets, and every step. -/

namespace Sys2Proof.Machine

/-! ### The rows of the management port -/

theorem State.stageProgram_moves (s : State) (p : Program) : Moves s (s.stageProgram p) := by
  unfold State.stageProgram
  split
  · exact (processHeads_moves [p] s).trans (State.release_moves _)
  · exact .of_frame rfl rfl

theorem State.withdrawAll_moves (s : State) (w : Fin 16) : Moves s (s.withdrawAll w) := by
  unfold State.withdrawAll
  dsimp only
  split
  · exact .refl
  · split
    · refine .trans (.trans ?_ (processHeads_moves ..)) (State.release_moves _)
      have ht : Moves s (s.setDrainTimer none) := .of_frame rfl rfl
      split
      · rename_i hd
        exact ht.trans (State.Move.restated w .opened (Window.decodes_of_isDraining hd) (by simp)).moves
      · exact ht
    · exact .of_frame rfl rfl

theorem State.flushWindow_moves (s : State) (w : Fin 16) : Moves s (s.flushWindow w) := by
  unfold State.flushWindow
  dsimp only
  refine .trans (.trans (s.completeAll_carries (s.openInOrder w) true true).moves ?_) (State.settle_moves ..)
  split <;> exact .of_frame rfl rfl

/-- An engine reset keeps every program (R31, R64, R157, R185). -/
theorem State.engineResetBlocks_moves (s : State) : Moves s s.engineResetBlocks := by
  refine (State.Move.cleared (fun i => ?_) (fun w => ?_) (fun w hw => ?_)).moves
  · simp [State.engineResetBlocks, State.ctx, AE.reset]
  · simp [State.engineResetBlocks, State.win, Window.engineReset]
  · have he : s.engineResetBlocks.win w = (s.win w).engineReset := by simp [State.engineResetBlocks, State.win]
    rw [he] at hw ⊢
    refine ⟨?_, rfl⟩
    by_cases hd : (s.win w).state.isDraining = true
    · exact Window.decodes_of_isDraining hd
    · simpa [Window.engineReset, hd, Window.decodes] using hw

/-- The effect of a command is a run of changes of the windows and the pool. -/
def EffectMoves (effect : List Byte → State → State × Reply) : Prop := ∀ args s, Moves s (effect args s).1

theorem stageEffect_moves : EffectMoves stageEffect := by
  intro args s
  unfold stageEffect
  split
  · exact .refl
  · split
    · exact s.stageProgram_moves _
    · exact .refl

theorem withdrawEffect_moves : EffectMoves withdrawEffect := by
  intro args s
  unfold withdrawEffect
  split
  · exact .refl
  · exact s.withdrawAll_moves _

theorem flushEffect_moves : EffectMoves flushEffect := by
  intro args s
  unfold flushEffect
  split
  · exact .refl
  · split_ifs
    · exact .refl
    · exact .refl
    · exact s.flushWindow_moves _

theorem engineResetEffect_moves : EffectMoves engineResetEffect := by
  intro args s
  refine .trans (.trans s.engineResetBlocks_moves ?_) (State.release_moves _)
  exact .of_frame rfl rfl

/-- An effect that writes neither a window nor a context. -/
theorem EffectMoves.of_frame {effect : List Byte → State → State × Reply}
    (h : ∀ args s, (effect args s).1.wt = s.wt ∧ (effect args s).1.ae = s.ae) : EffectMoves effect := fun args s =>
  .of_frame (h args s).1 (congrArg AE.pool (h args s).2)

theorem EffectMoves.ite {c : Prop} [Decidable c] {f g : List Byte → State → State × Reply} (hf : EffectMoves f)
    (hg : EffectMoves g) : EffectMoves (if c then f else g) :=
  iteInduction (fun _ => hf) fun _ => hg

/-- The queries reply and change nothing (R181, R184). -/
theorem queryWindowEffect_moves : EffectMoves queryWindowEffect :=
  .of_frame fun args s => by unfold queryWindowEffect; split <;> exact ⟨rfl, rfl⟩

/-- The commands that write the correction table, the monitors, the Event Queue or the limits write nothing else. -/
theorem registerEffects_moves : EffectMoves setCorrectionEffect ∧ EffectMoves setMonitorEffect ∧
    EffectMoves releaseMonitorEffect ∧ EffectMoves popEventEffect ∧ EffectMoves setTimersEffect := by
  refine ⟨.of_frame fun args s => ?_, .of_frame fun args s => ?_, .of_frame fun args s => ?_,
    .of_frame fun args s => ?_, .of_frame fun args s => ?_⟩
  · unfold setCorrectionEffect; split <;> exact ⟨rfl, rfl⟩
  · unfold setMonitorEffect; split <;> exact ⟨rfl, rfl⟩
  · unfold releaseMonitorEffect; split <;> exact ⟨rfl, rfl⟩
  · unfold popEventEffect; split <;> exact ⟨rfl, rfl⟩
  · unfold setTimersEffect; split <;> exact ⟨rfl, rfl⟩

/-- Every command of the port (10.4). -/
theorem commandEffect_moves (code : Byte) : EffectMoves (commandEffect code) := by
  obtain ⟨hcorrection, hmonitor, hrelease, hpop, htimers⟩ := registerEffects_moves
  have hident : EffectMoves identEffect := fun _ _ => .refl
  have htime : EffectMoves readTimeEffect := fun _ _ => .refl
  have hpool : EffectMoves queryPoolEffect := fun _ _ => .refl
  have hstatus : EffectMoves eventStatusEffect := fun _ _ => .refl
  have hother : EffectMoves (fun _ s => (s, Reply.plain .badCmd)) := fun _ _ => .refl
  exact .ite hident <| .ite htime <| .ite stageEffect_moves <| .ite withdrawEffect_moves <| .ite flushEffect_moves <|
    .ite queryWindowEffect_moves <| .ite hpool <| .ite hcorrection <| .ite hmonitor <| .ite hrelease <| .ite hpop <|
    .ite hstatus <| .ite htimers <| .ite engineResetEffect_moves hother

/-- A transaction does what its command does, or nothing (R175). -/
theorem State.transact_moves (s : State) (code : Byte) (mdi : List Bool) {effect : List Byte → State → State × Reply}
    (he : EffectMoves effect) : Moves s (s.transact code mdi effect) := by
  have ht : Moves s (s.receive code mdi).floatMdo := .of_frame rfl rfl
  unfold State.transact
  dsimp only
  cases judge (keptBytes code mdi)
  case run args =>
    refine .trans (ht.trans (he args _)) ?_
    exact .of_frame rfl rfl
  all_goals
    refine .trans ht ?_
    exact .of_frame rfl rfl

theorem State.responseRead_moves (s : State) (n : Nat) : Moves s (s.responseRead n) := .of_frame rfl rfl

theorem State.transaction_moves (s : State) (code : Byte) (mdi : List Bool) : Moves s (s.transaction code mdi) := by
  unfold State.transaction
  split
  · exact s.responseRead_moves _
  · exact s.transact_moves code mdi (commandEffect_moves code)

theorem State.shortPeriod_moves (s : State) (mdi : List Bool) : Moves s (s.shortPeriod mdi) := by
  unfold State.shortPeriod
  split
  · exact .of_frame rfl rfl
  · exact s.transaction_moves ..

theorem State.active_moves (s : State) (f : State → State) (hf : ∀ t, Moves t (f t)) : Moves s (s.active f) := by
  unfold State.active
  split
  · exact hf s
  · exact .refl

theorem State.selected_moves (s : State) (f : State → State) (hf : ∀ t, Moves t (f t)) : Moves s (s.selected f) := by
  unfold State.selected
  split
  · exact .of_frame rfl rfl
  · exact s.active_moves f hf

/-- A row of the port that runs the command of `code`. -/
theorem State.command_moves (s : State) (code : Byte) (mdi : List Bool) :
    Moves s (s.selected (·.transact code mdi (commandEffect code))) :=
  s.selected_moves _ fun t => t.transact_moves code mdi (commandEffect_moves code)

/-! ### Resets and the timebase -/

theorem State.resetBlocks_moves (s : State) (h : ResetHold) : Moves s (s.resetBlocks h) := by
  have hw (w : Fin 16) : (s.resetBlocks h).win w = Window.reset := by
    simp [State.resetBlocks, State.reset, State.win]
  refine (State.Move.cleared (fun i => ?_) (fun w => ?_) (fun w hd => ?_)).moves
  · simp [State.resetBlocks, State.reset, State.ctx, AE.reset]
  · rw [hw]; rfl
  · rw [hw] at hd; cases hd

theorem State.takeRst_moves (s : State) : Moves s s.takeRst := by
  unfold State.takeRst
  split <;> exact s.resetBlocks_moves _

theorem State.releaseReset_moves (s : State) : Moves s s.releaseReset := by
  unfold State.releaseReset
  split
  · exact .refl
  · exact s.resetBlocks_moves _
  · exact .refl

theorem State.tick_moves (s : State) : Moves s s.tick := by
  unfold State.tick
  split <;> exact .of_frame rfl rfl

/-! ### Every step -/

theorem execRstAssert_moves (low : Nat) {s t : State} (h : execRstAssert low s = .next t) : Moves s t := by
  have hi : Moves s { s with freeIdx := s.freeIdx + 1 } := .of_frame rfl rfl
  unfold execRstAssert at h
  dsimp only at h
  split_ifs at h <;> cases h
  · exact s.takeRst_moves
  · exact hi.trans (State.takeRst_moves _)
  · exact hi

theorem execResponseRead_moves (p : ReadPeriod) {s t : State} (h : execResponseRead p s = .next t) : Moves s t := by
  cases p <;> cases h
  · exact s.selected_moves _ fun t => t.responseRead_moves _
  · exact s.selected_moves _ fun t => t.shortPeriod_moves _
  · unfold State.beginPeriod
    split
    · exact .refl
    · exact .of_frame rfl rfl

/-- Every command is a run of changes of the windows and the pool. -/
theorem exec_moves (c : Instr) {s t : State} (h : exec c s = .next t) : Moves s t := by
  cases c
  case rstAssert low => exact execRstAssert_moves low h
  case responseRead p => exact execResponseRead_moves p h
  all_goals cases h
  case ingressRequest => exact s.active_moves _ fun t => t.present_moves _
  case holdTimerExpiry => exact s.active_moves _ fun t => t.holdExpiry_moves
  case idleExpiry => exact s.active_moves _ fun t => t.idleExpiry_moves _ _
  case commitEntry => exact s.active_moves _ fun t => t.commitEntry_moves
  case ingressEntry => exact s.active_moves _ fun t => t.ingressEntry_moves
  case issue => exact s.active_moves _ fun t => t.issue_moves _
  case egressResponse => exact s.active_moves _ fun t => t.memoryResponse_moves _ _
  case responseTimeout => exact s.active_moves _ fun t => t.responseExpiry_moves
  case deliverResponse => exact s.active_moves _ fun t => t.deliver_moves
  case drainTimerExpiry => exact s.active_moves _ fun t => t.drainExpiry_moves
  case unknownCommand => exact s.selected_moves _ fun t => t.transaction_moves _ _
  case timebaseTick => exact s.tick_moves
  case powerOnReset => exact s.resetBlocks_moves _
  case resetRelease => exact s.releaseReset_moves
  case ident mdi => exact s.command_moves 0x01 mdi
  case readTime mdi => exact s.command_moves 0x02 mdi
  case stage mdi => exact s.command_moves 0x10 mdi
  case withdraw mdi => exact s.command_moves 0x11 mdi
  case flush mdi => exact s.command_moves 0x12 mdi
  case queryWindow mdi => exact s.command_moves 0x13 mdi
  case queryPool mdi => exact s.command_moves 0x14 mdi
  case setCorrection mdi => exact s.command_moves 0x20 mdi
  case setMonitor mdi => exact s.command_moves 0x21 mdi
  case releaseMonitor mdi => exact s.command_moves 0x22 mdi
  case popEvent mdi => exact s.command_moves 0x30 mdi
  case eventStatus mdi => exact s.command_moves 0x31 mdi
  case setTimers mdi => exact s.command_moves 0x40 mdi
  case engineReset mdi => exact s.command_moves 0x41 mdi

/-- Every step is a run of changes of the windows and the pool. -/
theorem step_moves {s t : State} (h : step s = .next t) : Moves s t := by
  unfold step at h
  split at h
  · cases h; exact .refl
  · refine .trans ?_ (exec_moves _ h)
    exact .of_frame rfl rfl

end Sys2Proof.Machine

/-! PROOF. The region law (R30) and the conservation law (R36): each kind of change keeps them. -/

namespace Sys2Proof.Machine

/-! ### The comparison of R29 and R150 -/

/-- A program passes the comparison when it leaves its window DISABLED, or conflicts with no window. -/
theorem State.conflict_none_iff (s : State) (p : Program) :
    s.conflict p = none ↔ p.enable = false ∨ ∀ v, v ∉ s.regionConflicts p ∧ v ∉ s.slotConflicts p := by
  unfold State.conflict
  cases p.enable
  · simp
  · cases hr : s.regionConflicts p with
    | cons v vs => simpa using ⟨v, fun h => absurd rfl h⟩
    | nil =>
      cases hs : s.slotConflicts p with
      | cons v vs => simpa using ⟨v, fun h => absurd rfl h⟩
      | nil => simp

theorem State.win_applyProgram (s : State) (p : Program) (rest : List Program) (route : Nat) (v : Fin 16) :
    (s.applyProgram p rest route).win v = if p.window = v then
      { state := if p.enable then .opened else .disabled, fields := p.fields, counters := Counters.zero }
      else s.win v := by
  simp [State.applyProgram, State.win_setWin]

/-! ### The region law (R30) -/

/-- Windows that decode by programs they had keep the region law. -/
theorem RegionLaw.of_fields {s t : State} (h : RegionLaw s)
    (hd : ∀ w, (t.win w).decodes = true → (s.win w).decodes = true ∧ (t.win w).fields = (s.win w).fields) :
    RegionLaw t := by
  obtain ⟨hr, hs⟩ := h
  refine ⟨fun v w g k a hv hw hg hk => ?_, fun v w i hv hw hg hk => ?_⟩
  all_goals
    obtain ⟨dv, fv⟩ := hd v hv
    obtain ⟨dw, fw⟩ := hd w hw
    rw [fv] at hg
    rw [fw] at hk
  · exact hr v w g k a dv dw hg hk
  · exact hs v w i dv dw hg hk

/-- A byte lies in a region of a window. -/
theorem Fields.has_of_owns {x : Fields} {g : Region} {a : Nat} (h : x.owns g a = true) :
    x.capture.has a = true ∨ x.result.has a = true := by
  cases g
  · exact Or.inl h
  · exact Or.inr h

/-- A program with enable yes that passes the comparison: its two regions share no byte. -/
theorem State.own_regions_disjoint {s : State} {p : Program} (hc : s.conflict p = none) (he : p.enable = true) {a : Nat}
    (hx : p.fields.capture.has a = true) (hy : p.fields.result.has a = true) : False := by
  rcases (s.conflict_none_iff p).1 hc with h | h
  · rw [he] at h; cases h
  · exact (h p.window).1 ((s.mem_regionConflicts p _).2 (Or.inl ⟨rfl, a, hx, hy⟩))

/-- It shares no byte with another window's regions. -/
theorem State.other_regions_disjoint {s : State} {p : Program} (hc : s.conflict p = none) (he : p.enable = true)
    {w : Fin 16} (hw : w ≠ p.window) (hd : (s.win w).decodes = true) {g k : Region} {a : Nat}
    (hx : p.fields.owns g a = true) (hy : (s.win w).fields.owns k a = true) : False := by
  rcases (s.conflict_none_iff p).1 hc with h | h
  · rw [he] at h; cases h
  · exact (h w).1 ((s.mem_regionConflicts p w).2 (Or.inr ⟨hw, hd,
      (Fields.regionOverlap_iff ..).2 ⟨a, Fields.has_of_owns hx, Fields.has_of_owns hy⟩⟩))

/-- It shares no index with another window's slot range. -/
theorem State.slots_disjoint {s : State} {p : Program} (hc : s.conflict p = none) (he : p.enable = true)
    {w : Fin 16} (hw : w ≠ p.window) (hd : (s.win w).decodes = true) {i : Nat}
    (hx : p.fields.slots.has i = true) (hy : (s.win w).fields.slots.has i = true) : False := by
  rcases (s.conflict_none_iff p).1 hc with h | h
  · rw [he] at h; cases h
  · exact (h w).2 ((s.mem_slotConflicts p w).2 ⟨hw, hd, i, hx, hy⟩)

/-- An apply keeps the region law: the comparison is what it asks of the new program (R29, R30). -/
theorem RegionLaw.applied {s : State} (h : RegionLaw s) (p : Program) (rest : List Program) (route : Nat)
    (hc : s.conflict p = none) : RegionLaw (s.applyProgram p rest route) := by
  cases he : p.enable with
  | false =>
    refine h.of_fields fun w hw => ?_
    rw [State.win_applyProgram] at hw ⊢
    split at hw
    · simp [he, Window.decodes] at hw
    · rename_i hne
      rw [if_neg hne]
      exact ⟨hw, rfl⟩
  | true =>
    have own : (s.applyProgram p rest route).win p.window = ⟨.opened, p.fields, Counters.zero⟩ := by
      simp [State.win_applyProgram, he]
    have other {v : Fin 16} (hv : v ≠ p.window) : (s.applyProgram p rest route).win v = s.win v := by
      rw [State.win_applyProgram, if_neg hv.symm]
    obtain ⟨hr, hs⟩ := h
    refine ⟨fun v w g k a hv hw hg hk => ?_, fun v w i hv hw hg hk => ?_⟩
    · rcases eq_or_ne v p.window with rfl | hnv
      · rw [own] at hg
        rcases eq_or_ne w p.window with rfl | hnw
        · rw [own] at hk
          refine ⟨rfl, ?_⟩
          cases g <;> cases k
          · rfl
          · exact (State.own_regions_disjoint hc he hg hk).elim
          · exact (State.own_regions_disjoint hc he hk hg).elim
          · rfl
        · rw [other hnw] at hw hk
          exact (State.other_regions_disjoint hc he hnw hw hg hk).elim
      · rw [other hnv] at hv hg
        rcases eq_or_ne w p.window with rfl | hnw
        · rw [own] at hk
          exact (State.other_regions_disjoint hc he hnv hv hk hg).elim
        · rw [other hnw] at hw hk
          exact hr v w g k a hv hw hg hk
    · rcases eq_or_ne v p.window with rfl | hnv
      · rw [own] at hg
        rcases eq_or_ne w p.window with rfl | hnw
        · rfl
        · rw [other hnw] at hw hk
          exact (State.slots_disjoint hc he hnw hw hg hk).elim
      · rw [other hnv] at hv hg
        rcases eq_or_ne w p.window with rfl | hnw
        · rw [own] at hk
          exact (State.slots_disjoint hc he hnv hv hk hg).elim
        · rw [other hnw] at hw hk
          exact hs v w i hv hw hg hk

theorem State.win_setWinState (s : State) (w v : Fin 16) (x : WState) :
    (s.setWinState w x).win v = if w = v then { s.win w with state := x } else s.win v :=
  State.win_setWin ..

/-- Every change keeps the region law: only an apply gives a window that decodes another program. -/
theorem RegionLaw.move {s t : State} (hm : State.Move s t) (h : RegionLaw s) : RegionLaw t := by
  cases hm with
  | carries hc =>
    exact h.of_fields fun w hw => ⟨by rwa [State.decodes_of_shape hc.shape] at hw, State.fields_of_shape hc.shape w⟩
  | applied p rest route hc _ => exact h.applied p rest route hc
  | restated w x hd _ =>
    refine h.of_fields fun v hv => ?_
    rw [State.win_setWinState] at hv ⊢
    split
    · rename_i hwv
      subst hwv
      exact ⟨hd, rfl⟩
    · rename_i hwv
      rw [if_neg hwv] at hv
      exact ⟨hv, rfl⟩
  | cleared _ _ hd => exact h.of_fields hd

/-- Settles O57: a step is a run of changes, and each keeps the region law. -/
theorem regionLawKept : Obligations.RegionLawKept := by
  unfold Obligations.RegionLawKept
  intro s t hs h
  exact (step_moves h).keeps (fun _ _ hm hl => hl.move hm) hs

/-! ### The conservation law (R36) -/

/-- What owes and holds the same difference as a balanced state is balanced. -/
theorem ConservationLaw.carried {s t : State} (hc : Carries s t) (h : ConservationLaw s) : ConservationLaw t := by
  obtain ⟨hb, hd⟩ := h
  refine ⟨fun w => ?_, fun w hw => ?_⟩
  · have hs := (balanced_iff s w).1 (hb w)
    have hg := hc.gap w
    rw [hs, add_comm] at hg
    exact (balanced_iff t w).2 (add_left_cancel hg)
  · rw [State.decodes_of_shape hc.shape] at hw
    by_contra hn
    rcases hc.holds w (by simpa using hn) with h | h
    · simp [hd w hw] at h
    · simp [hw] at h

/-- An apply to a window without contexts: its counters are 0, and it holds no samples (R31, R36). -/
theorem ConservationLaw.applied {s : State} (h : ConservationLaw s) (p : Program) (rest : List Program) (route : Nat)
    (hn : (s.win p.window).decodes = false ∨ s.holdsContexts p.window = false) :
    ConservationLaw (s.applyProgram p rest route) := by
  obtain ⟨hb, hd⟩ := h
  have hn : s.holdsContexts p.window = false := hn.elim (hd p.window) id
  have hp : (s.applyProgram p rest route).ae.pool = s.ae.pool := by simp
  refine ⟨fun w => ?_, fun w hw => ?_⟩
  · have hw := hb w
    unfold Balanced at hw ⊢
    rw [State.win_applyProgram, State.heldCount_of_pool hp]
    split
    · rename_i hpw
      subst hpw
      simp [State.heldCount_of_empty hn, Counters.zero]
    · exact hw
  · rw [State.holdsContexts_of_pool hp]
    rw [State.win_applyProgram] at hw
    split at hw
    · rename_i hpw
      rwa [← hpw]
    · exact hd w hw

/-- A window that is OPEN or DRAINING may hold contexts, so its state does not matter (R25, R36). -/
theorem ConservationLaw.restated {s : State} (h : ConservationLaw s) (w : Fin 16) (x : WState) (hx : x ≠ .disabled) :
    ConservationLaw (s.setWinState w x) := by
  obtain ⟨hb, hd⟩ := h
  refine ⟨fun v => ?_, fun v hv => ?_⟩
  · have hv := hb v
    unfold Balanced at hv ⊢
    rw [State.win_setWinState]
    split
    · rename_i hwv
      subst hwv
      exact hv
    · exact hv
  · refine hd v ?_
    rw [State.win_setWinState] at hv
    split at hv
    · cases x <;> simp_all [Window.decodes]
    · exact hv

/-- After a reset nothing is absorbed and nothing held (R37, R64). -/
theorem ConservationLaw.cleared {t : State} (hf : ∀ i, t.ctx i = .free)
    (hz : ∀ w, (t.win w).counters = Counters.zero) : ConservationLaw t := by
  have hn (w : Fin 16) : t.holdsContexts w = false := by
    rw [State.holdsContexts_false_iff]
    intro i
    rw [hf]
    rfl
  refine ⟨fun w => ?_, fun w _ => hn w⟩
  simp [Balanced, hz, State.heldCount_of_empty (hn w), Counters.zero]

/-- Every change keeps the conservation law. -/
theorem ConservationLaw.move {s t : State} (hm : State.Move s t) (h : ConservationLaw s) : ConservationLaw t := by
  cases hm with
  | carries hc => exact h.carried hc
  | applied p rest route _ hn => exact h.applied p rest route hn
  | restated w x _ hx => exact h.restated w x hx
  | cleared hf hz _ => exact .cleared hf hz

/-- Settles O58: a step is a run of changes, and each keeps the conservation law. -/
theorem conservationLawKept : Obligations.ConservationLawKept := by
  unfold Obligations.ConservationLawKept
  intro s t hs h
  exact (step_moves h).keeps (fun _ _ hm hl => hl.move hm) hs

end Sys2Proof.Machine

/-! PROOF. STAGE for a window without contexts: the comparison in elementary terms (R29, R150), and the apply or the
rejection at once (R139 to R141, R151). -/

namespace Sys2Proof.Machine

/-! ### The comparison of R29 and R150 in elementary terms -/

theorem SampleFormat.width_eq (f : SampleFormat) : f.width = if f = .s16 ∨ f = .u16 then 2 else 4 := by
  cases f <;> rfl

/-- The bytes of a capture region (R21). -/
theorem Fields.capture_has_iff (x : Fields) (a : Nat) : x.capture.has a = true ↔ x.captureBase.toNat ≤ a ∧
    a < x.captureBase.toNat + x.slotCount.toNat * (if x.format = .s16 ∨ x.format = .u16 then 2 else 4) := by
  rw [← SampleFormat.width_eq]
  exact decide_eq_true_iff

/-- The bytes of a result region (R22). -/
theorem Fields.result_has_iff (x : Fields) (a : Nat) : x.result.has a = true ↔
    x.resultBase.toNat ≤ a ∧ a < x.resultBase.toNat + x.slotCount.toNat * 8 := decide_eq_true_iff

/-- The indices of a slot range (R24). -/
theorem Fields.slots_has_iff (x : Fields) (k : Nat) : x.slots.has k = true ↔
    x.slotBase.toNat ≤ k ∧ k < x.slotBase.toNat + x.slotCount.toNat := decide_eq_true_iff

theorem Window.decodes_iff (x : Window) : x.decodes = true ↔ x.state ≠ .disabled := by
  unfold Window.decodes
  cases x.state <;> simp

/-- `v` is the lowest window of a list. -/
def Lowest (l : List (Fin 16)) (v : Fin 16) : Prop := v ∈ l ∧ ∀ u, u < v → u ∉ l

/-- The head of a filtered list of windows is its lowest, and no other window is. -/
theorem lowest_filter_iff {f : Fin 16 → Bool} {x : Fin 16} {rest : List (Fin 16)}
    (h : (List.finRange 16).filter f = x :: rest) (v : Fin 16) : Lowest ((List.finRange 16).filter f) v ↔ x = v := by
  obtain ⟨hx, hlow⟩ := filter_finRange_eq_cons h
  have hmem (u : Fin 16) : u ∈ (List.finRange 16).filter f ↔ f u = true := by simp
  simp only [Lowest, hmem]
  constructor
  · rintro ⟨hv, hl⟩
    rcases lt_trichotomy x v with hlt | heq | hgt
    · exact absurd hx (hl x hlt)
    · exact heq
    · simp [hlow v hgt] at hv
  · rintro rfl
    exact ⟨hx, fun u hu => by simp [hlow u hu]⟩

/-- The cause of a rejection: a region conflict before a slot conflict, each with its lowest window (R150). -/
theorem State.conflict_some_iff (s : State) (p : Program) (cause : Nat) (v : Fin 16) :
    s.conflict p = some (cause, v) ↔ p.enable = true ∧
      ((cause = 1 ∧ Lowest (s.regionConflicts p) v) ∨
        (cause = 2 ∧ (∀ u, u ∉ s.regionConflicts p) ∧ Lowest (s.slotConflicts p) v)) := by
  have hcause (n : Nat) (x : Fin 16) : (some (n, x) = some (cause, v)) ↔ cause = n ∧ x = v := by
    rw [Option.some.injEq, Prod.mk.injEq, eq_comm]
  unfold State.conflict
  cases p.enable with
  | false => simp
  | true =>
    cases hr : s.regionConflicts p with
    | cons x xs =>
      have hne : ¬ ∀ u, u ∉ x :: xs := fun h => h x List.mem_cons_self
      have hlow : Lowest (x :: xs) v ↔ x = v := hr ▸ lowest_filter_iff hr v
      simp only [Bool.not_true, Bool.false_eq_true, if_false, hcause, hne, hlow, false_and, and_false, or_false, true_and]
    | nil =>
      have hno : ¬ Lowest [] v := fun h => List.not_mem_nil h.1
      cases hs : s.slotConflicts p with
      | cons x xs =>
        have hlow : Lowest (x :: xs) v ↔ x = v := hs ▸ lowest_filter_iff hs v
        simp only [Bool.not_true, Bool.false_eq_true, if_false, hcause, hno, hlow, and_false, false_or, true_and,
          List.not_mem_nil, not_false_eq_true, implies_true]
      | nil => simp [hno]

theorem State.conflict_congr {s t : State} (h : t.win = s.win) (p : Program) : t.conflict p = s.conflict p := by
  simp only [State.conflict, State.regionConflicts, State.slotConflicts, h]

/-! ### STAGE that is applied or rejected at once (R139 to R141) -/

/-- The head for a window without contexts is applied or rejected by route 1, IMMEDIATE (R140, R141). -/
theorem State.stageProgram_at_once {s : State} {p : Program} (hs : s.pa.stage = []) (hn : s.NoHeld)
    (hw : (s.win p.window).decodes = false ∨ s.holdsContexts p.window = false) :
    s.stageProgram p = ((s.setStage [p]).applyHead p [] 1).setStage [] := by
  have hc : (!((s.setStage [p]).win p.window).decodes || !(s.setStage [p]).holdsContexts p.window) = true := by
    simpa [State.holdsContexts_of_pool (s := s) (t := s.setStage [p]) rfl] using hw
  have hp : processHeads [p] s = ((s.setStage [p]).applyHead p [] 1).setStage [] := by
    simp only [processHeads, hc, if_true]
  have hi : (((s.setStage [p]).applyHead p [] 1).setStage []).NoHeld := by
    intro h
    simpa using hn h
  rw [State.stageProgram, hs]
  dsimp only
  rw [hp, State.release_of_noHeld hi]

/-- STAGE to an empty Stage Queue, for a window without contexts, as one next state. -/
theorem exec_stage_at_once {mdi : List Bool} {s : State} {a : List Byte} {p : Program} (hl : s.Listening)
    (hx : Executes 0x10 mdi a) (ha : stagedProgram a = some p) (hs : s.pa.stage = []) (hn : s.NoHeld)
    (hw : (s.win p.window).decodes = false ∨ s.holdsContexts p.window = false) :
    exec (.stage mdi) s = .next
      ((((((s.receive 0x10 mdi).floatMdo.setStage [p]).applyHead p [] 1).setStage []).store ⟨.ok, [1]⟩)) := by
  have he : stageEffect a (s.receive 0x10 mdi).floatMdo =
      ((s.receive 0x10 mdi).floatMdo.stageProgram p, ⟨.ok, [1]⟩) := by
    simp [stageEffect, ha, hs, Config.stageQueue, Reply.okay, leBytes]
  rw [State.stageProgram_at_once (by simpa using hs) (fun h => by simpa using hn h) (by simpa using hw)] at he
  show Host.Outcome.next (s.selected (·.transact 0x10 mdi stageEffect)) = _
  rw [State.selected_listening hl, State.transact_run _ _ _ _ _ hx, he]

theorem State.slotAt_resetSlots (s : State) (q : Nat → Bool) (i : Nat) (h : i < 1024) :
    (s.resetSlots q).slotAt i = if q i then SlotStatus.fresh else s.slotAt i := by
  simp [State.slotAt, h]

theorem State.mon_applyMonitors (s : State) (w : Fin 16) (m : Fin 4) :
    (s.applyMonitors w).mon m = if (s.mon m).state = .armed then
      { s.mon m with counters := (s.mon m).counters.set w.val 0 } else s.mon m :=
  getElem_mapV _ s.lm m.val m.isLt

/-- What an apply writes beside the window (R96, R114, R118, R151). -/
theorem State.applyProgram_writes (s : State) (p : Program) (rest : List Program) (route : Nat) :
    (∀ i < 1024, (s.applyProgram p rest route).slotAt i =
      if s.resetByApply p i then SlotStatus.fresh else s.slotAt i) ∧
    (s.applyProgram p rest route).eg =
      { s.eg with queue := s.eg.queue.map (EgressEntry.staleWhere (s.resetByApply p)) } ∧
    (∀ m, (s.applyProgram p rest route).mon m = if (s.mon m).state = .armed then
      { s.mon m with counters := (s.mon m).counters.set p.window.val 0 } else s.mon m) ∧
    (s.applyProgram p rest route).evq =
      (s.record .programApplied (some p.window) none (if p.enable then 1 else 0) route).evq := by
  refine ⟨fun i hi => ?_, ?_, fun m => ?_, ?_⟩
  · simpa [State.applyProgram] using s.slotAt_resetSlots (s.resetByApply p) i hi
  · simp [State.applyProgram]
  · exact State.mon_applyMonitors _ p.window m
  · rfl

/-- A rejection of a program whose window is not DRAINING leaves every window as it was (R150). -/
theorem State.rejectProgram_wt {s : State} {p : Program} (h : (s.win p.window).state.isDraining = false)
    (rest : List Program) (cause : Nat) (v : Fin 16) : (s.rejectProgram p rest cause v).wt = s.wt := by
  rw [State.rejectProgram_wt_eq, h]
  exact s.setWinState_self p.window

theorem State.rejectProgram_evq (s : State) (p : Program) (rest : List Program) (cause : Nat) (v : Fin 16) :
    (s.rejectProgram p rest cause v).evq =
      (s.record .programRejected (some p.window) none (BitVec.ofNat 32 v.val) cause).evq := rfl

theorem State.applyHead_of_none {s : State} {p : Program} (h : s.conflict p = none) (rest : List Program)
    (route : Nat) : s.applyHead p rest route = s.applyProgram p rest route := by
  simp [State.applyHead, h]

theorem State.applyHead_of_some {s : State} {p : Program} {cause : Nat} {v : Fin 16}
    (h : s.conflict p = some (cause, v)) (rest : List Program) (route : Nat) :
    s.applyHead p rest route = s.rejectProgram p rest cause v := by
  simp [State.applyHead, h]

/-- The apply of a program changes no other window (R150, R151). -/
theorem State.applyHead_win_other (s : State) (p : Program) (rest : List Program) (route : Nat) {v : Fin 16}
    (hv : v ≠ p.window) : (s.applyHead p rest route).win v = s.win v := by
  cases hc : s.conflict p with
  | none => rw [State.applyHead_of_none hc, State.win_applyProgram, if_neg hv.symm]
  | some x =>
    have hw := State.rejectProgram_wt_eq s p rest x.1 x.2
    rw [State.applyHead_of_some hc]
    simp only [State.win, hw]
    exact (State.win_setWinState ..).trans (if_neg hv.symm)

/-- Settles O23, the comparison by its characterisation, the command by its next state. -/
theorem stageAppliesAtOnce : Obligations.StageAppliesAtOnce := by
  unfold Obligations.StageAppliesAtOnce
  refine ⟨fun s p => ?_, fun mdi s a p hl hx ha hs hn hdr hw => ?_⟩
  · intro width captures results indices other region slot
    have hregion (v : Fin 16) : region v ↔ v ∈ s.regionConflicts p := by
      rw [State.mem_regionConflicts, Fields.regionOverlap_iff]
      simp only [Fields.capture_has_iff, Fields.result_has_iff, Window.decodes_iff, region, other, captures, results,
        width, and_assoc]
    have hslot (v : Fin 16) : slot v ↔ v ∈ s.slotConflicts p := by
      rw [State.mem_slotConflicts]
      simp only [Fields.slots_has_iff, Window.decodes_iff, slot, other, indices, and_assoc]
    simp only [hregion, hslot]
    exact ⟨s.conflict_none_iff p, s.conflict_some_iff p⟩
  · intro reset
    have hw' : (s.win p.window).decodes = false ∨ s.holdsContexts p.window = false :=
      hw.imp (fun h => by simp [Window.decodes, h]) id
    refine ⟨_, exec_stage_at_once hl hx ha hs hn hw', rfl, rfl, ?_⟩
    generalize hu : (s.receive 0x10 mdi).floatMdo.setStage [p] = u
    have hwin : u.win = s.win := hu ▸ rfl
    have hevq (k : EventKind) (d : BitVec 32) (n : Nat) :
        (u.record k (some p.window) none d n).evq = (s.record k (some p.window) none d n).evq := hu ▸ rfl
    have hc : u.conflict p = s.conflict p := State.conflict_congr hwin p
    refine ⟨by simp [← hu], by simp [← hu], by simp [← hu], fun v hv => ?_, fun hnone => ?_, fun cause v hsome => ?_⟩
    · rw [← hwin]
      exact u.applyHead_win_other p [] 1 hv
    · rw [State.applyHead_of_none (hc.trans hnone)]
      obtain ⟨hct, heg, hlm, hrec⟩ := u.applyProgram_writes p [] 1
      have hreset : u.resetByApply p = reset := by
        unfold State.resetByApply
        rw [hwin]
      have hseg : u.eg = s.eg := hu ▸ rfl
      have hslot : u.slotAt = s.slotAt := hu ▸ rfl
      have hmon : u.mon = s.mon := hu ▸ rfl
      rw [hreset, hslot] at hct
      rw [hreset, hseg] at heg
      rw [hmon] at hlm
      exact ⟨(u.win_applyProgram p [] 1 p.window).trans (if_pos rfl), hct, heg, hlm, hrec.trans (hevq ..)⟩
    · rw [State.applyHead_of_some (hc.trans hsome)]
      have hwt := State.rejectProgram_wt (s := u) (p := p) (by rwa [hwin]) [] cause v
      exact ⟨hwt.trans (by simp [← hu]), by simp [← hu], by simp [← hu], by simp [← hu],
        (u.rejectProgram_evq p [] cause v).trans (hevq ..)⟩

end Sys2Proof.Machine

/-! PROOF. The pool laws R39 and R46 on one state: the contexts number 64, and the Commit List is as long as there are
COMMITTING contexts; and how the laws pass from a state to the next. -/

namespace Sys2Proof.Machine

/-! ### The pool as a list of contexts -/

/-- The pool, context by context. -/
theorem State.pool_toList (s : State) : s.ae.pool.toList = (List.finRange 64).map s.ctx := by
  refine List.ext_getElem (by simp) fun i h _ => ?_
  simp [State.ctx]

theorem State.countP_pool (s : State) (f : Context → Bool) :
    s.ae.pool.toList.countP f = ((List.finRange 64).filter (fun i => f (s.ctx i))).length := by
  rw [State.pool_toList, List.countP_map, List.countP_eq_length_filter]
  rfl

/-- Every context is FREE, OPEN or COMMITTING, and only one of them (R38). -/
theorem countP_states (l : List Context) :
    l.countP Context.isFree + l.countP Context.isOpen + l.countP Context.isCommitting = l.length := by
  induction l with
  | nil => rfl
  | cons c l ih =>
    simp only [List.countP_cons, List.length_cons]
    cases c <;> simp [Context.isFree, Context.isOpen, Context.isCommitting] <;> omega

/-- The first pool law (R39). -/
theorem State.count_contexts (s : State) : s.freeCount + s.openCount + s.committingCount = 64 :=
  (countP_states s.ae.pool.toList).trans (by simp)

/-- The Commit List holds the COMMITTING contexts in some order (R46). -/
theorem CommitListLaw.perm {s : State} (h : CommitListLaw s) :
    s.ae.commitList.Perm ((List.finRange 64).filter (fun i => (s.ctx i).isCommitting)) := by
  obtain ⟨hn, hm⟩ := h
  refine (List.perm_ext_iff_of_nodup hn ((List.nodup_finRange 64).filter _)).2 fun i => ?_
  simp [hm i]

theorem CommitListLaw.length_eq {s : State} (h : CommitListLaw s) : s.ae.commitList.length = s.committingCount := by
  rw [State.committingCount, State.countP_pool, h.perm.length_eq]

/-! ### How the laws pass from one state to the next -/

/-- R46 stays when the Commit List stays and no context becomes COMMITTING or leaves. -/
theorem CommitListLaw.congr {s t : State} (h : CommitListLaw s) (hl : t.ae.commitList = s.ae.commitList)
    (hc : ∀ i, (t.ctx i).isCommitting = (s.ctx i).isCommitting) : CommitListLaw t := by
  obtain ⟨hn, hm⟩ := h
  exact ⟨hl ▸ hn, fun i => by rw [hl, hc, hm]⟩

/-- The second law stays when no context is given a key it did not have. -/
theorem OneOpenPerKey.of_keys {s t : State} (h : OneOpenPerKey s)
    (hk : ∀ i w slot, (t.ctx i).isKey w slot = true → (s.ctx i).isKey w slot = true) : OneOpenPerKey t :=
  fun i j w slot hi hj => h i j w slot (hk i w slot hi) (hk j w slot hj)

theorem Context.isKey_iff (c : Context) (w : Fin 16) (slot : Nat) :
    c.isKey w slot = true ↔ ∃ a, c = .opened a ∧ a.window = w ∧ a.slot = slot := by
  cases c <;> simp [Context.isKey]

/-- The second law stays when every OPEN context was OPEN before with the same key. -/
theorem OneOpenPerKey.of_opens {s t : State} (h : OneOpenPerKey s)
    (ho : ∀ i a, t.ctx i = .opened a → ∃ b, s.ctx i = .opened b ∧ b.window = a.window ∧ b.slot = a.slot) :
    OneOpenPerKey t := by
  refine h.of_keys fun i w slot hk => ?_
  obtain ⟨a, ha, hw, hs⟩ := (Context.isKey_iff ..).1 hk
  obtain ⟨b, hb, hbw, hbs⟩ := ho i a ha
  exact (Context.isKey_iff ..).2 ⟨b, hb, hbw.trans hw, hbs.trans hs⟩

theorem PoolLaw.of_pool {s t : State} (h : PoolLaw s) (hp : t.ae.pool = s.ae.pool)
    (hl : t.ae.commitList = s.ae.commitList) : PoolLaw t := by
  have hc := State.ctx_of_pool hp
  exact ⟨h.1.congr hl (by simp [hc]), h.2.of_keys (by simp [hc])⟩

end Sys2Proof.Machine
/-! PROOF. Every step by its row: a relation that each row's meaning keeps to holds from a state to the next. -/

namespace Sys2Proof.Machine

/-- A relation that is reflexive and transitive, that the registers of the port, the monitors and the Event Queue do not
touch, and that every row's meaning keeps to. -/
structure RowRel (R : State → State → Prop) : Prop where
  refl (s : State) : R s s
  trans {s t u : State} : R s t → R t u → R s u
  registers {s t : State} : t.ig = s.ig → t.wt = s.wt → t.ae = s.ae → t.ct = s.ct → t.eg = s.eg → t.pa = s.pa →
    R s t
  present (s : State) (r : Request) : R s (s.present r)
  deliver (s : State) : R s s.deliver
  holdExpiry (s : State) : R s s.holdExpiry
  idleExpiry (s : State) (w : Fin 16) (slot : Nat) : R s (s.idleExpiry w slot)
  drainExpiry (s : State) : R s s.drainExpiry
  commitEntry (s : State) : R s s.commitEntry
  ingressEntry (s : State) : R s s.ingressEntry
  issue (s : State) (ready : Bool) : R s (s.issue ready)
  memoryResponse (s : State) (st : LinkStatus) (d : Lanes) : R s (s.memoryResponse st d)
  responseExpiry (s : State) : R s s.responseExpiry
  stage (s : State) (a : List Byte) (p : Program) : stagedProgram a = some p → s.pa.stage.length < 4 →
    R s (s.stageProgram p)
  withdraw (s : State) (w : Fin 16) : R s (s.withdrawAll w)
  flush (s : State) (w : Fin 16) : (s.win w).decodes = true → (s.flushOf w).outstanding = 0 → R s (s.flushWindow w)
  engineReset (s : State) : R s s.engineResetBlocks
  release (s : State) : R s s.release
  resetBlocks (s : State) (h : ResetHold) : R s (s.resetBlocks h)

namespace RowRel

variable {R : State → State → Prop}

/-- The effect of a command stays in the relation. -/
def Effect (R : State → State → Prop) (effect : List Byte → State → State × Reply) : Prop :=
  ∀ args s, R s (effect args s).1

theorem stageEffect (hR : RowRel R) : Effect R stageEffect := by
  intro args s
  unfold Machine.stageEffect
  split
  · exact hR.refl s
  · rename_i p hp
    split
    · rename_i hl
      exact hR.stage s args p hp hl
    · exact hR.refl s

theorem withdrawEffect (hR : RowRel R) : Effect R withdrawEffect := by
  intro args s
  unfold Machine.withdrawEffect
  split
  · exact hR.refl s
  · exact hR.withdraw s _

theorem flushEffect (hR : RowRel R) : Effect R flushEffect := by
  intro args s
  unfold Machine.flushEffect
  split
  · exact hR.refl s
  · split_ifs with hd ho
    · exact hR.refl s
    · exact hR.refl s
    · exact hR.flush s _ (by simpa using hd) (by omega)

theorem engineResetEffect (hR : RowRel R) : Effect R engineResetEffect := by
  intro args s
  refine hR.trans (hR.trans (hR.engineReset s) ?_) (hR.release _)
  exact hR.registers rfl rfl rfl rfl rfl rfl

theorem Effect.ite {c : Prop} [Decidable c] {f g : List Byte → State → State × Reply} (hf : Effect R f)
    (hg : Effect R g) : Effect R (if c then f else g) :=
  iteInduction (fun _ => hf) fun _ => hg

/-- The commands that write the registers of the port, the monitors or the Event Queue, or only reply. -/
theorem registerEffects (hR : RowRel R) : Effect R setCorrectionEffect ∧ Effect R setMonitorEffect ∧
    Effect R releaseMonitorEffect ∧ Effect R popEventEffect ∧ Effect R setTimersEffect ∧
    Effect R queryWindowEffect := by
  refine ⟨fun args s => ?_, fun args s => ?_, fun args s => ?_, fun args s => ?_, fun args s => ?_, fun args s => ?_⟩
  · unfold setCorrectionEffect; split <;> exact hR.registers rfl rfl rfl rfl rfl rfl
  · unfold setMonitorEffect; split <;> exact hR.registers rfl rfl rfl rfl rfl rfl
  · unfold releaseMonitorEffect; split <;> exact hR.registers rfl rfl rfl rfl rfl rfl
  · unfold popEventEffect; split <;> exact hR.registers rfl rfl rfl rfl rfl rfl
  · unfold setTimersEffect; split <;> exact hR.registers rfl rfl rfl rfl rfl rfl
  · unfold queryWindowEffect; split <;> exact hR.refl s

/-- Every command of the port (10.4). -/
theorem commandEffect (hR : RowRel R) (code : Byte) : Effect R (commandEffect code) := by
  obtain ⟨hcorrection, hmonitor, hrelease, hpop, htimers, hwindow⟩ := hR.registerEffects
  have hreply (f : State → Reply) : Effect R (fun _ s => (s, f s)) := fun _ s => hR.refl s
  exact .ite (hreply _) <| .ite (hreply _) <| .ite hR.stageEffect <| .ite hR.withdrawEffect <| .ite hR.flushEffect <|
    .ite hwindow <| .ite (hreply _) <| .ite hcorrection <| .ite hmonitor <| .ite hrelease <| .ite hpop <|
    .ite (hreply _) <| .ite htimers <| .ite hR.engineResetEffect (hreply _)

/-- A transaction does what its command does, or nothing (R175). -/
theorem transact (hR : RowRel R) (s : State) (code : Byte) (mdi : List Bool)
    {effect : List Byte → State → State × Reply} (he : Effect R effect) : R s (s.transact code mdi effect) := by
  have ht : R s (s.receive code mdi).floatMdo := hR.registers rfl rfl rfl rfl rfl rfl
  have hstore (t : State) (r : Reply) : R t (t.store r) := hR.registers rfl rfl rfl rfl rfl rfl
  unfold State.transact
  dsimp only
  cases judge (keptBytes code mdi)
  case run args => exact hR.trans (hR.trans ht (he args _)) (hstore _ _)
  all_goals exact hR.trans ht (hstore _ _)

theorem transaction (hR : RowRel R) (s : State) (code : Byte) (mdi : List Bool) : R s (s.transaction code mdi) := by
  unfold State.transaction
  split
  · exact hR.registers rfl rfl rfl rfl rfl rfl
  · exact hR.transact s code mdi (hR.commandEffect code)

theorem shortPeriod (hR : RowRel R) (s : State) (mdi : List Bool) : R s (s.shortPeriod mdi) := by
  unfold State.shortPeriod
  split
  · exact hR.registers rfl rfl rfl rfl rfl rfl
  · exact hR.transaction s _ _

theorem active (hR : RowRel R) (s : State) (f : State → State) (hf : ∀ t, R t (f t)) : R s (s.active f) := by
  unfold State.active
  split
  · exact hf s
  · exact hR.refl s

theorem selected (hR : RowRel R) (s : State) (f : State → State) (hf : ∀ t, R t (f t)) : R s (s.selected f) := by
  unfold State.selected
  split
  · exact hR.registers rfl rfl rfl rfl rfl rfl
  · exact hR.active s f hf

/-- A row of the port that runs the command of `code`. -/
theorem command (hR : RowRel R) (s : State) (code : Byte) (mdi : List Bool) :
    R s (s.selected (·.transact code mdi (Machine.commandEffect code))) :=
  hR.selected s _ fun t => hR.transact t code mdi (hR.commandEffect code)

theorem takeRst (hR : RowRel R) (s : State) : R s s.takeRst := by
  unfold State.takeRst
  split <;> exact hR.resetBlocks s _

theorem execRstAssert (hR : RowRel R) (low : Nat) {s t : State} (h : execRstAssert low s = .next t) : R s t := by
  have hi : R s { s with freeIdx := s.freeIdx + 1 } := hR.registers rfl rfl rfl rfl rfl rfl
  unfold Machine.execRstAssert at h
  dsimp only at h
  split_ifs at h <;> cases h
  · exact hR.takeRst s
  · exact hR.trans hi (hR.takeRst _)
  · exact hi

theorem releaseReset (hR : RowRel R) (s : State) : R s s.releaseReset := by
  unfold State.releaseReset
  split
  · exact hR.refl s
  · exact hR.resetBlocks s _
  · exact hR.refl s

theorem tick (hR : RowRel R) (s : State) : R s s.tick := by
  unfold State.tick
  split <;> exact hR.registers rfl rfl rfl rfl rfl rfl

theorem execResponseRead (hR : RowRel R) (p : ReadPeriod) {s t : State} (h : execResponseRead p s = .next t) :
    R s t := by
  cases p <;> cases h
  · exact hR.selected s _ fun t => hR.registers rfl rfl rfl rfl rfl rfl
  · exact hR.selected s _ fun t => hR.shortPeriod t _
  · unfold State.beginPeriod
    split
    · exact hR.refl s
    · exact hR.registers rfl rfl rfl rfl rfl rfl

/-- Every command stays in the relation. -/
theorem exec (hR : RowRel R) (c : Instr) {s t : State} (h : exec c s = .next t) : R s t := by
  cases c
  case rstAssert low => exact hR.execRstAssert low h
  case responseRead p => exact hR.execResponseRead p h
  all_goals cases h
  case ingressRequest => exact hR.active s _ fun t => hR.present t _
  case holdTimerExpiry => exact hR.active s _ hR.holdExpiry
  case idleExpiry => exact hR.active s _ fun t => hR.idleExpiry t _ _
  case commitEntry => exact hR.active s _ hR.commitEntry
  case ingressEntry => exact hR.active s _ hR.ingressEntry
  case issue => exact hR.active s _ fun t => hR.issue t _
  case egressResponse => exact hR.active s _ fun t => hR.memoryResponse t _ _
  case responseTimeout => exact hR.active s _ hR.responseExpiry
  case deliverResponse => exact hR.active s _ hR.deliver
  case drainTimerExpiry => exact hR.active s _ hR.drainExpiry
  case unknownCommand => exact hR.selected s _ fun t => hR.transaction t _ _
  case timebaseTick => exact hR.tick s
  case powerOnReset => exact hR.resetBlocks s _
  case resetRelease => exact hR.releaseReset s
  case ident mdi => exact hR.command s 0x01 mdi
  case readTime mdi => exact hR.command s 0x02 mdi
  case stage mdi => exact hR.command s 0x10 mdi
  case withdraw mdi => exact hR.command s 0x11 mdi
  case flush mdi => exact hR.command s 0x12 mdi
  case queryWindow mdi => exact hR.command s 0x13 mdi
  case queryPool mdi => exact hR.command s 0x14 mdi
  case setCorrection mdi => exact hR.command s 0x20 mdi
  case setMonitor mdi => exact hR.command s 0x21 mdi
  case releaseMonitor mdi => exact hR.command s 0x22 mdi
  case popEvent mdi => exact hR.command s 0x30 mdi
  case eventStatus mdi => exact hR.command s 0x31 mdi
  case setTimers mdi => exact hR.command s 0x40 mdi
  case engineReset mdi => exact hR.command s 0x41 mdi

/-- Every step stays in the relation. -/
theorem step (hR : RowRel R) {s t : State} (h : step s = .next t) : R s t := by
  unfold Machine.step at h
  split at h
  · cases h; exact hR.refl s
  · refine hR.trans ?_ (hR.exec _ h)
    exact hR.registers rfl rfl rfl rfl rfl rfl

end RowRel

end Sys2Proof.Machine

/-! PROOF. What the operations of the pool do to each context: allocations and samples (R42), completions (R43 to R45), and
the contexts that leave. -/

namespace Sys2Proof.Machine

/-! ### Allocations and samples (R42) -/

/-- A context that no sample touches. -/
theorem State.ctx_addSample_other (s : State) (w : Fin 16) (p : Nat × BitVec 48) (i : Fin 64)
    (h : s.lookup w p.1 ≠ some i) : (s.addSample w p).ctx i = s.ctx i := by
  rcases s.addSample_cases w p with ⟨-, hs⟩ | ⟨j, a, b, hj, -, -, -, -, -, hs⟩
  · rw [hs]
  · rw [hs, State.ctx_setCtx, if_neg (by rintro rfl; exact h hj)]

/-- What an accumulation holds after one more sample (R42). -/
def Accum.sampled (a : Accum) (x : BitVec 48) (now : Time) : Accum :=
  { a with sum := a.sum + x, count := a.count + 1, lastSampleTime := now }

theorem State.ctx_addSample_self (s : State) (w : Fin 16) (p : Nat × BitVec 48) {i : Fin 64} {a : Accum}
    (hi : s.lookup w p.1 = some i) (ha : s.ctx i = .opened a) :
    (s.addSample w p).ctx i = .opened (a.sampled p.2 s.mp.timebase) := by
  simp [State.addSample, hi, ha, State.ctx_setCtx, Accum.sampled]

theorem State.lookup_addAll (s : State) (w : Fin 16) (l : List (Nat × BitVec 48)) :
    (s.addAll w l).lookup = s.lookup := by
  unfold State.addAll
  induction l generalizing s with
  | nil => rfl
  | cons p l ih => exact (ih _).trans (s.lookup_addSample w p)

theorem State.ctx_addAll_other (s : State) (w : Fin 16) (l : List (Nat × BitVec 48)) (i : Fin 64)
    (h : ∀ p ∈ l, s.lookup w p.1 ≠ some i) : (s.addAll w l).ctx i = s.ctx i := by
  unfold State.addAll
  induction l generalizing s with
  | nil => rfl
  | cons p l ih =>
    rw [List.foldl_cons, ih, s.ctx_addSample_other w p i (h p (by simp))]
    intro q hq
    rw [s.lookup_addSample]
    exact h q (by simp [hq])

/-- Two slots with the same OPEN context are the same slot. -/
theorem State.lookup_slot_inj {s : State} {w : Fin 16} {k l : Nat} {i : Fin 64} (hk : s.lookup w k = some i)
    (hl : s.lookup w l = some i) : k = l := by
  obtain ⟨a, ha, -, rfl⟩ := State.lookup_some hk
  obtain ⟨b, hb, -, rfl⟩ := State.lookup_some hl
  cases ha.symm.trans hb
  rfl

/-- Of samples for distinct slots, each slot's OPEN context takes its own, once (R42). -/
theorem State.ctx_addAll_self (s : State) (w : Fin 16) (l : List (Nat × BitVec 48)) (hn : (l.map Prod.fst).Nodup)
    {p : Nat × BitVec 48} (hp : p ∈ l) {i : Fin 64} {a : Accum} (hi : s.lookup w p.1 = some i)
    (ha : s.ctx i = .opened a) : (s.addAll w l).ctx i = .opened (a.sampled p.2 s.mp.timebase) := by
  induction l generalizing s with
  | nil => simp at hp
  | cons q l ih =>
    obtain ⟨hq, hn⟩ := List.nodup_cons.1 hn
    have hlook := s.lookup_addSample w q
    show ((s.addSample w q).addAll w l).ctx i = _
    rcases List.mem_cons.1 hp with rfl | hp
    · rw [State.ctx_addAll_other, s.ctx_addSample_self w p hi ha]
      intro r hr hri
      rw [hlook] at hri
      exact hq (State.lookup_slot_inj hi hri ▸ List.mem_map_of_mem hr)
    · have hne : s.lookup w q.1 ≠ some i := fun h => hq (State.lookup_slot_inj hi h ▸ List.mem_map_of_mem hp)
      rw [ih (s.addSample w q) hn hp (by rwa [hlook]) (by rw [s.ctx_addSample_other w q i hne, ha])]
      simp

/-- After allocations a context is as it was, or it was FREE and is the fresh one of a touched slot (R42). -/
theorem State.ctx_allocateAll (s : State) (w : Fin 16) (l : List (Nat × BitVec 48)) (i : Fin 64) :
    (s.allocateAll w l).ctx i = s.ctx i ∨
    s.ctx i = .free ∧ ∃ p ∈ l, (s.allocateAll w l).ctx i = freshContext w p.1 s.mp.timebase := by
  induction l generalizing s with
  | nil => exact Or.inl rfl
  | cons p l ih =>
    have hmp : (s.allocate w p.1).mp = s.mp := by simp
    have hhead : (s.allocate w p.1).ctx i = s.ctx i ∨
        s.ctx i = .free ∧ (s.allocate w p.1).ctx i = freshContext w p.1 s.mp.timebase := by
      rcases s.allocate_cases w p.1 with ⟨h, -⟩ | ⟨-, j, hj, h⟩
      · rw [h]; exact Or.inl rfl
      · rw [h, State.ctx_setCtx]
        split
        · rename_i hji; subst hji; exact Or.inr ⟨hj, rfl⟩
        · exact Or.inl rfl
    show ((s.allocate w p.1).allocateAll w l).ctx i = _ ∨ _ ∧ ∃ q ∈ p :: l, ((s.allocate w p.1).allocateAll w l).ctx i = _
    rcases ih (s.allocate w p.1) with h | ⟨hf, q, hq, h⟩
    · rw [h]
      rcases hhead with h | ⟨hf, h⟩
      · exact Or.inl h
      · exact Or.inr ⟨hf, p, by simp, h⟩
    · rcases hhead with hs | ⟨-, hs⟩
      · exact Or.inr ⟨hs ▸ hf, q, by simp [hq], hmp ▸ h⟩
      · rw [hf] at hs; cases hs

theorem OneOpenPerKey.allocate {s : State} (h : OneOpenPerKey s) (w : Fin 16) (slot : Nat) :
    OneOpenPerKey (s.allocate w slot) := by
  rcases s.allocate_cases w slot with ⟨hs, -⟩ | ⟨hl, i, hi, hs⟩
  · rwa [hs]
  · have hno (j : Fin 64) : (s.ctx j).isKey w slot = false :=
      State.lookup_none (by simpa using hl) j
    have hkey (j : Fin 64) (v : Fin 16) (k : Nat) (hj : ((s.allocate w slot).ctx j).isKey v k = true) :
        (j = i ∧ v = w ∧ k = slot) ∨ (j ≠ i ∧ (s.ctx j).isKey v k = true) := by
      rw [hs, State.ctx_setCtx] at hj
      split at hj
      · rename_i hij
        simp only [freshContext, Context.isKey, decide_eq_true_eq] at hj
        exact Or.inl ⟨hij.symm, hj.1.symm, hj.2.symm⟩
      · rename_i hij
        exact Or.inr ⟨fun h => hij h.symm, hj⟩
    intro j k v m hj hk
    rcases hkey j v m hj with ⟨hji, hv, hm⟩ | ⟨-, hjs⟩ <;> rcases hkey k v m hk with ⟨hki, hv', hm'⟩ | ⟨-, hks⟩
    · rw [hji, hki]
    · rw [hv, hm, hno] at hks; cases hks
    · rw [hv', hm', hno] at hjs; cases hjs
    · exact h j k v m hjs hks

theorem OneOpenPerKey.allocateAll {s : State} (h : OneOpenPerKey s) (w : Fin 16) (l : List (Nat × BitVec 48)) :
    OneOpenPerKey (s.allocateAll w l) := by
  unfold State.allocateAll
  induction l generalizing s with
  | nil => exact h
  | cons p l ih => exact ih (h.allocate w p.1)

theorem State.isCommitting_addSample (s : State) (w : Fin 16) (p : Nat × BitVec 48) (i : Fin 64) :
    ((s.addSample w p).ctx i).isCommitting = (s.ctx i).isCommitting := by
  rcases s.addSample_cases w p with ⟨-, h⟩ | ⟨j, a, b, -, ha, -, -, -, -, h⟩
  · rw [h]
  · rw [h, State.ctx_setCtx]
    split
    · rename_i hj; rw [← hj, ha]; rfl
    · rfl

/-- Allocations and samples make no context COMMITTING and end none (R42). -/
theorem State.isCommitting_sampled (s : State) (w : Fin 16) (l : List (Nat × BitVec 48)) (i : Fin 64) :
    (((s.allocateAll w l).addAll w l).ctx i).isCommitting = (s.ctx i).isCommitting := by
  have hadd (t : State) : ((t.addAll w l).ctx i).isCommitting = (t.ctx i).isCommitting := by
    unfold State.addAll
    induction l generalizing t with
    | nil => rfl
    | cons p l ih => exact (ih _).trans (t.isCommitting_addSample w p i)
  rw [hadd]
  rcases s.ctx_allocateAll w l i with h | ⟨hf, p, -, h⟩
  · rw [h]
  · rw [h, hf]; rfl

theorem OneOpenPerKey.addSample {s : State} (h : OneOpenPerKey s) (w : Fin 16) (p : Nat × BitVec 48) :
    OneOpenPerKey (s.addSample w p) := by
  refine h.of_opens fun i a ha => ?_
  rcases s.addSample_cases w p with ⟨-, hs⟩ | ⟨j, b, c, -, hb, -, hw, hk, -, hs⟩
  · rw [hs] at ha; exact ⟨a, ha, rfl, rfl⟩
  · rw [hs, State.ctx_setCtx] at ha
    split at ha
    · rename_i hj
      cases ha
      exact ⟨b, hj ▸ hb, hw.symm, hk.symm⟩
    · exact ⟨a, ha, rfl, rfl⟩

theorem OneOpenPerKey.addAll {s : State} (h : OneOpenPerKey s) (w : Fin 16) (l : List (Nat × BitVec 48)) :
    OneOpenPerKey (s.addAll w l) := by
  unfold State.addAll
  induction l generalizing s with
  | nil => exact h
  | cons p l ih => exact ih (h.addSample w p)

/-! ### Completions -/

/-- What a completion does to the engine: nothing to a context that is not OPEN, and an OPEN one becomes FREE or joins
the Commit List (R45). -/
theorem State.complete_cases (s : State) (i : Fin 64) (p f : Bool) :
    ((s.ctx i).isOpen = false ∧ s.complete i p f = s) ∨
    (∃ a, s.ctx i = .opened a ∧ (s.complete i p f).ae = { s.ae with pool := s.ae.pool.set i.val .free }) ∨
    ∃ c, s.ctx i = .opened c.acc ∧ (s.complete i p f).ae = { s.ae with
      pool := s.ae.pool.set i.val (.committing c), commitList := s.ae.commitList ++ [i] } := by
  cases hc : s.ctx i with
  | free => exact Or.inl ⟨rfl, s.complete_not_open i p f (by rw [hc]; rfl)⟩
  | committing c => exact Or.inl ⟨rfl, s.complete_not_open i p f (by rw [hc]; rfl)⟩
  | opened a =>
    rcases State.complete_open s i a p f hc _ rfl with ⟨-, hae, -⟩ | ⟨-, hae, -⟩
    · exact Or.inr (Or.inl ⟨a, rfl, hae⟩)
    · exact Or.inr (Or.inr ⟨_, rfl, hae⟩)

/-- A completion leaves every other context, and its own is not OPEN after it (R45). -/
theorem State.ctx_complete (s : State) (i : Fin 64) (p f : Bool) :
    (∀ j, j ≠ i → (s.complete i p f).ctx j = s.ctx j) ∧ ((s.complete i p f).ctx i).isOpen = false := by
  rcases s.complete_cases i p f with ⟨ho, h⟩ | ⟨a, -, hae⟩ | ⟨c, -, hae⟩
  · rw [h]
    exact ⟨fun j _ => rfl, ho⟩
  all_goals
    have hctx := State.ctx_of_set (congrArg AE.pool hae)
    refine ⟨fun j hj => by rw [hctx, if_neg hj.symm], ?_⟩
    rw [hctx, if_pos rfl]
    rfl

/-- An OPEN context after a completion was OPEN before, and is another one. -/
theorem State.opened_of_complete {s : State} {i j : Fin 64} {p f : Bool} {a : Accum}
    (h : (s.complete i p f).ctx j = .opened a) : j ≠ i ∧ s.ctx j = .opened a := by
  obtain ⟨hother, hself⟩ := s.ctx_complete i p f
  rcases eq_or_ne j i with rfl | hj
  · simp [h, Context.isOpen] at hself
  · exact ⟨hj, by rw [← hother j hj, h]⟩

/-- What a full completion of a slot does: nothing, or its OPEN context, whose count has reached N, completes (R43). -/
theorem State.completeIfFull_cases (s : State) (w : Fin 16) (slot : Nat) :
    (s.completeIfFull w slot = s ∧ ∀ i a, s.lookup w slot = some i → s.ctx i = .opened a →
      a.count ≠ (s.win w).fields.ratio.toNat) ∨
    ∃ i a, s.lookup w slot = some i ∧ s.ctx i = .opened a ∧ a.count = (s.win w).fields.ratio.toNat ∧
      s.completeIfFull w slot = s.complete i false false := by
  unfold State.completeIfFull
  cases hl : s.lookup w slot with
  | none => exact Or.inl ⟨rfl, by simp⟩
  | some i =>
    obtain ⟨a, ha, -, -⟩ := State.lookup_some hl
    simp only [ha]
    by_cases hc : a.count = (s.win w).fields.ratio.toNat
    · exact Or.inr ⟨i, a, rfl, ha, hc, if_pos hc⟩
    · refine Or.inl ⟨if_neg hc, ?_⟩
      rintro j b ⟨⟩ hb
      cases ha.symm.trans hb
      exact hc

/-- What a completion keeps, the full completions of an absorbed write keep (R43). -/
theorem State.completeFull_induct (P : State → Prop) (one : ∀ s i, P s → P (s.complete i false false)) (w : Fin 16)
    (l : List (Nat × BitVec 48)) (s : State) (h : P s) : P (s.completeFull w l) := by
  unfold State.completeFull
  induction l generalizing s with
  | nil => exact h
  | cons p l ih =>
    have hp : P (s.completeIfFull w p.1) := by
      rcases s.completeIfFull_cases w p.1 with ⟨hs, -⟩ | ⟨i, a, -, -, -, hs⟩
      · rwa [hs]
      · rw [hs]; exact one s i h
    exact ih _ hp

/-- An OPEN context after the full completions was OPEN before them. -/
theorem State.opened_of_completeFull {s : State} {w : Fin 16} {l : List (Nat × BitVec 48)} {j : Fin 64} {a : Accum}
    (h : (s.completeFull w l).ctx j = .opened a) : s.ctx j = .opened a :=
  State.completeFull_induct (fun t => t.ctx j = .opened a → s.ctx j = .opened a)
    (fun _ _ ih ht => ih (State.opened_of_complete ht).2) w l s id h

theorem OneOpenPerKey.complete {s : State} (h : OneOpenPerKey s) (i : Fin 64) (p f : Bool) :
    OneOpenPerKey (s.complete i p f) :=
  h.of_opens fun _ a ha => ⟨a, (State.opened_of_complete ha).2, rfl, rfl⟩

/-- After the full completions no touched slot has an OPEN context with N samples (R43). -/
theorem State.count_of_completeFull {s : State} (hone : OneOpenPerKey s) {w : Fin 16} {l : List (Nat × BitVec 48)}
    {j : Fin 64} {a : Accum} (h : (s.completeFull w l).ctx j = .opened a) {p : Nat × BitVec 48} (hp : p ∈ l)
    (hw : a.window = w) (hs : a.slot = p.1) : a.count ≠ (s.win w).fields.ratio.toNat := by
  induction l generalizing s with
  | nil => simp at hp
  | cons q l ih =>
    have hshape : (s.completeIfFull w q.1).shape = s.shape := by simp
    have hone' : OneOpenPerKey (s.completeIfFull w q.1) := by
      rcases s.completeIfFull_cases w q.1 with ⟨hc, -⟩ | ⟨i, b, -, -, -, hc⟩
      · rwa [hc]
      · rw [hc]; exact hone.complete i _ _
    have h' : ((s.completeIfFull w q.1).completeFull w l).ctx j = .opened a := h
    rcases List.mem_cons.1 hp with rfl | hp
    · have hopen := State.opened_of_completeFull h'
      rcases s.completeIfFull_cases w p.1 with ⟨hc, hne⟩ | ⟨i, b, hi, -, -, hc⟩
      · rw [hc] at hopen
        exact hne j a (by rw [← hw, ← hs]; exact State.lookup_of_open hone hopen) hopen
      · rw [hc] at hopen
        obtain ⟨hji, hopen⟩ := State.opened_of_complete hopen
        have hj := State.lookup_of_open hone hopen
        rw [hw, hs, hi] at hj
        exact absurd (Option.some.inj hj).symm hji
    · rw [← State.fields_of_shape hshape]
      exact ih hone' h' hp

/-! ### Contexts discarded -/

/-- Contexts discarded one after another: those named that are in the window are FREE, the others as before (R60, R61). -/
theorem State.ctx_foldl_discard (s : State) (w : Fin 16) (l : List (Fin 64)) (j : Fin 64) :
    (l.foldl (fun t i => t.discard w i) s).ctx j =
      if j ∈ l ∧ (s.ctx j).inWindow w = true then .free else s.ctx j := by
  induction l generalizing s with
  | nil => simp
  | cons i l ih =>
    rw [List.foldl_cons, ih, State.ctx_discard]
    by_cases hij : i = j
    · subst hij
      by_cases hw : (s.ctx i).inWindow w = true <;> simp [hw]
    · have hji : j ≠ i := fun h => hij h.symm
      simp [hij, hji]

end Sys2Proof.Machine

/-! PROOF. What a step can do to the pool, the Commit List and the programs, said once: every row is a run of these
changes. -/

namespace Sys2Proof.Machine

/-- One change of the pool, the Commit List and the programs. -/
inductive State.PoolMove (s : State) : State → Prop where
  /-- None of them changes, but that programs leave the Stage Queue, or one that STAGE accepts joins it (R138). -/
  | frame {t : State} (hp : t.ae.pool = s.ae.pool) (hl : t.ae.commitList = s.ae.commitList) (hs : t.shape = s.shape)
      (hq : ∀ p ∈ t.pa.stage, p ∈ s.pa.stage ∨ ∃ a, stagedProgram a = some p) : State.PoolMove s t
  /-- Contexts become FREE, and the COMMITTING ones among them leave the Commit List (R47). -/
  | freed {t : State} (hc : ∀ i, t.ctx i = s.ctx i ∨ t.ctx i = .free)
      (hl : CommitListLaw s → t.ae.commitList = s.ae.commitList.filter (fun i => (t.ctx i).isCommitting))
      (hs : t.shape = s.shape) (hq : t.pa.stage = s.pa.stage) : State.PoolMove s t
  /-- An OPEN context becomes COMMITTING at the tail of the Commit List (R45, R46). -/
  | joined {t : State} (i : Fin 64) (c : Completed) (ha : s.ctx i = .opened c.acc)
      (hp : t.ae.pool = s.ae.pool.set i.val (.committing c)) (hl : t.ae.commitList = s.ae.commitList ++ [i])
      (hs : t.shape = s.shape) (hq : t.pa.stage = s.pa.stage) : State.PoolMove s t
  /-- A sample write is absorbed, with room in the pool (R41 to R43). -/
  | absorbed (w : Fin 16) (l : List (Nat × BitVec 48)) (hn : (l.map Prod.fst).Nodup) (hd : (s.win w).decodes = true)
      (hr : l.countP (fun p => (s.lookup w p.1).isNone) ≤ s.freeCount) : State.PoolMove s (s.absorb w l)
  /-- The head of the Stage Queue is applied to a window without contexts (R28, R151). -/
  | applied (p : Program) (rest : List Program) (route : Nat) (hq : s.pa.stage = p :: rest)
      (hn : (s.win p.window).decodes = false ∨ s.holdsContexts p.window = false) :
      State.PoolMove s (s.applyProgram p rest route)
  /-- A window that is not DISABLED is OPEN or DRAINING by its program (R26, R27). -/
  | restated (w : Fin 16) (x : WState) (hw : (s.win w).decodes = true) (hx : x ≠ .disabled) :
      State.PoolMove s (s.setWinState w x)
  /-- A reset (R37, R63, R64, R157, R158). -/
  | cleared {t : State} (hf : ∀ i, t.ctx i = .free) (hl : t.ae.commitList = [])
      (hd : ∀ w, (t.win w).decodes = true → (s.win w).decodes = true ∧ (t.win w).fields = (s.win w).fields)
      (hq : t.pa.stage = []) : State.PoolMove s t

/-- Changes of the pool, the Commit List and the programs, one after another. -/
def PoolMoves : State → State → Prop := Relation.ReflTransGen State.PoolMove

namespace PoolMoves

variable {s t u : State}

theorem refl (s : State) : PoolMoves s s := Relation.ReflTransGen.refl

theorem trans (h : PoolMoves s t) (g : PoolMoves t u) : PoolMoves s u := Relation.ReflTransGen.trans h g

theorem of_move (h : State.PoolMove s t) : PoolMoves s t := Relation.ReflTransGen.single h

/-- What one change keeps, an event keeps. -/
theorem keeps {P : State → Prop} (one : ∀ s t, State.PoolMove s t → P s → P t) (h : PoolMoves s t)
    (hs : P s) : P t := by
  induction h with
  | refl => exact hs
  | tail _ hm ih => exact one _ _ hm ih

/-- An operation that writes neither the pool, nor the Commit List, nor a program. -/
theorem of_frame (hp : t.ae.pool = s.ae.pool) (hl : t.ae.commitList = s.ae.commitList) (hs : t.shape = s.shape)
    (hq : t.pa.stage = s.pa.stage) : PoolMoves s t :=
  of_move (.frame hp hl hs fun _ h => Or.inl (hq ▸ h))

/-- An operation that writes no window and nothing of the engine, and takes programs off the Stage Queue at most. -/
theorem of_wt_ae (hw : t.wt = s.wt) (ha : t.ae = s.ae) (hq : t.pa.stage ⊆ s.pa.stage) : PoolMoves s t :=
  of_move (.frame (by rw [ha]) (by rw [ha]) (State.shape_of_wt _ _ hw) fun _ h => Or.inl (hq h))

/-- An operation that writes no window, nothing of the engine and no program. -/
theorem of_same (hw : t.wt = s.wt) (ha : t.ae = s.ae) (hq : t.pa = s.pa) : PoolMoves s t :=
  of_wt_ae hw ha (by rw [hq]; exact List.Subset.refl _)

end PoolMoves

/-! ### Contexts that leave -/

/-- Every member of the Commit List is COMMITTING, so that one which stays so is not filtered out (R46). -/
theorem CommitListLaw.filter_eq_self {s t : State} (h : CommitListLaw s)
    (hc : ∀ i, (s.ctx i).isCommitting = true → (t.ctx i).isCommitting = true) :
    s.ae.commitList.filter (fun i => (t.ctx i).isCommitting) = s.ae.commitList :=
  List.filter_eq_self.2 fun i hi => hc i ((h.2 i).1 hi)

/-- With its head FREE, the Commit List filtered is its tail (R46, R47). -/
theorem CommitListLaw.filter_eq_tail {s t : State} (h : CommitListLaw s) {i : Fin 64} {rest : List (Fin 64)}
    (hl : s.ae.commitList = i :: rest) (hp : t.ae.pool = s.ae.pool.set i.val .free) :
    s.ae.commitList.filter (fun i => (t.ctx i).isCommitting) = rest := by
  obtain ⟨hn, hm⟩ := h
  rw [hl] at hn hm ⊢
  obtain ⟨hi, -⟩ := List.nodup_cons.1 hn
  have hctx := State.ctx_of_set hp
  rw [List.filter_cons_of_neg (by simp [hctx, Context.isCommitting]), List.filter_eq_self]
  intro j hj
  rw [hctx, if_neg (by rintro rfl; exact hi hj)]
  exact (hm j).1 (by simp [hj])

/-- The head of the Commit List becomes FREE and leaves it (R47). -/
theorem PoolMoves.of_head {s t : State} {i : Fin 64} {rest : List (Fin 64)} (hi : s.ae.commitList = i :: rest)
    (hp : t.ae.pool = s.ae.pool.set i.val .free) (hl : t.ae.commitList = rest) (hs : t.shape = s.shape)
    (hq : t.pa.stage = s.pa.stage) : PoolMoves s t :=
  of_move (.freed
    (fun j => by
      rw [State.ctx_of_set hp]
      split
      · exact Or.inr rfl
      · exact Or.inl rfl)
    (fun h => hl.trans (h.filter_eq_tail hi hp).symm) hs hq)

/-- OPEN contexts become FREE (R45, R55, R60). -/
theorem PoolMoves.of_open_freed {s t : State} (hc : ∀ i, t.ctx i = s.ctx i ∨ (s.ctx i).isOpen = true ∧ t.ctx i = .free)
    (hl : t.ae.commitList = s.ae.commitList) (hs : t.shape = s.shape) (hq : t.pa.stage = s.pa.stage) : PoolMoves s t :=
  of_move (.freed (fun i => (hc i).imp_right And.right)
    (fun h => hl.trans (h.filter_eq_self fun i hi => by
      rcases hc i with hc | ⟨ho, -⟩
      · rw [hc]; exact hi
      · cases hx : s.ctx i <;> simp_all [Context.isOpen, Context.isCommitting]).symm) hs hq)

theorem State.keepDiscard_poolMoves {s : State} {i : Fin 64} {rest : List (Fin 64)} (c : Completed)
    (hl : s.ae.commitList = i :: rest) : PoolMoves s ((s.setCommitList rest).keepDiscard i c) :=
  .of_head hl (by simp [State.keepDiscard]) (by simp) (by simp) (by simp)

theorem keepTests_poolMoves (n : Nat) (s : State) : PoolMoves s (keepTests n s) :=
  keepTests_induct (PoolMoves s) (fun _ _ _ c hl _ _ h => h.trans (State.keepDiscard_poolMoves c hl)) n s (.refl s)

/-- A KEEP run (R105). -/
theorem State.keepRun_poolMoves (s : State) : PoolMoves s s.keepRun := keepTests_poolMoves _ s

theorem State.grantCommit_ae (s : State) (i : Fin 64) (c : Completed) :
    (s.grantCommit i c).ae.pool = s.ae.pool.set i.val .free ∧
    (s.grantCommit i c).ae.commitList = s.ae.commitList.tail := by
  unfold State.grantCommit
  dsimp only
  split <;> simp

theorem State.grantCommit_poolMoves {s : State} {i : Fin 64} {rest : List (Fin 64)} (c : Completed)
    (hl : s.ae.commitList = i :: rest) : PoolMoves s (s.grantCommit i c) := by
  obtain ⟨hp, ht⟩ := s.grantCommit_ae i c
  exact .of_head hl hp (by rw [ht, hl]; rfl) (by simp) (by simp)

/-- The cut-over frees the window's contexts and takes them off the Commit List (R61, R148). -/
theorem State.cutOver_poolMoves (s : State) (w : Fin 16) : PoolMoves s (s.cutOver w) := by
  unfold State.cutOver
  dsimp only
  refine .trans ?_ (State.keepRun_poolMoves _)
  generalize ht : State.flushDiscard _ _ _ = t
  have hctx (j : Fin 64) : t.ctx j = if (s.ctx j).inWindow w = true then .free else s.ctx j := by
    have hp (u : State) (n : Nat) : (u.flushDiscard w n).ctx = u.ctx := State.ctx_of_pool (by simp)
    rw [← ht, hp, State.record_ctx, State.ctx_foldl_discard]
    simp
  refine .of_move (.freed (fun i => ?_) (fun h => ?_) (by simp [← ht]) (by simp [← ht]))
  · rw [hctx]
    split
    · exact Or.inr rfl
    · exact Or.inl rfl
  · have hl : t.ae.commitList = s.ae.commitList.filter (fun i => !(s.ctx i).inWindow w) := by simp [← ht]
    rw [hl]
    refine List.filter_congr fun i hi => ?_
    have hci := (h.2 i).1 hi
    rw [hctx]
    by_cases hw : (s.ctx i).inWindow w = true
    · simp [hw, Context.isCommitting]
    · simp [hw, hci]

/-! ### Completions, and the contexts that a timer ends -/

theorem State.complete_poolMoves (s : State) (i : Fin 64) (p f : Bool) : PoolMoves s (s.complete i p f) := by
  rcases s.complete_cases i p f with ⟨-, h⟩ | ⟨a, ha, hae⟩ | ⟨c, ha, hae⟩
  · rw [h]
    exact .refl s
  · refine .of_open_freed (fun j => ?_) (by rw [hae]) (by simp) (by simp)
    rw [State.ctx_of_set (congrArg AE.pool hae)]
    split
    · rename_i hij; exact Or.inr ⟨by rw [← hij, ha]; rfl, rfl⟩
    · exact Or.inl rfl
  · exact .of_move (.joined i c ha (by rw [hae]) (by rw [hae]) (by simp) (by simp))

theorem State.completeAll_poolMoves (s : State) (l : List (Fin 64)) (p f : Bool) : PoolMoves s (s.completeAll l p f) :=
  State.completeAll_induct (PoolMoves s) p f (fun t i h => h.trans (t.complete_poolMoves i p f)) l s (.refl s)

theorem State.idleEnd_poolMoves (s : State) (i : Fin 64) (a : Accum) (h : s.ctx i = .opened a) :
    PoolMoves s (s.idleEnd i a) := by
  unfold State.idleEnd
  split
  · exact s.complete_poolMoves i true false
  · refine .of_open_freed (fun j => ?_) (by simp) (by simp) (by simp)
    rw [State.record_ctx, State.drop_ctx, State.ctx_setCtx]
    split
    · rename_i hij; exact Or.inr ⟨by rw [← hij, h]; rfl, rfl⟩
    · exact Or.inl rfl

/-- The OPEN contexts of a window, each named once (R58, R60). -/
theorem State.mem_openInOrder (s : State) (w : Fin 16) (i : Fin 64) :
    i ∈ s.openInOrder w ↔ (s.ctx i).isOpen = true ∧ (s.ctx i).inWindow w = true := by
  simp [State.openInOrder]

theorem State.forceContexts_poolMoves (s : State) (w : Fin 16) : PoolMoves s (s.forceContexts w) := by
  have hd : PoolMoves s ((s.openInOrder w).foldl (fun t i => t.discard w i) s) := by
    refine .of_open_freed (fun j => ?_) (by simp) (by simp) (by simp)
    rw [State.ctx_foldl_discard]
    split
    · rename_i hj; exact Or.inr ⟨((s.mem_openInOrder w j).1 hj.1).1, rfl⟩
    · exact Or.inl rfl
  unfold State.forceContexts
  split
  · exact s.completeAll_poolMoves _ _ _
  · dsimp only
    split
    · exact hd
    · exact hd.trans (.of_same rfl rfl rfl)

/-! ### Programs -/

theorem State.rejectProgram_poolMoves (s : State) (p : Program) (rest : List Program) (cause : Nat) (v : Fin 16)
    (hq : s.pa.stage = p :: rest) : PoolMoves s (s.rejectProgram p rest cause v) := by
  have hw := s.rejectProgram_wt_eq p rest cause v
  have hsub : (s.rejectProgram p rest cause v).pa.stage ⊆ s.pa.stage := by
    rw [hq]
    exact List.subset_cons_self p rest
  split at hw
  · rename_i hd
    exact (PoolMoves.of_move (.restated p.window .opened (Window.decodes_of_isDraining hd) (by simp))).trans
      (.of_wt_ae hw (by simp) hsub)
  · exact .of_wt_ae (hw.trans (s.setWinState_self p.window)) (by simp) hsub

theorem State.applyHead_poolMoves (s : State) (p : Program) (rest : List Program) (route : Nat)
    (hq : s.pa.stage = p :: rest) (hn : (s.win p.window).decodes = false ∨ s.holdsContexts p.window = false) :
    PoolMoves s (s.applyHead p rest route) := by
  unfold State.applyHead
  split
  · exact s.rejectProgram_poolMoves p rest _ _ hq
  · exact .of_move (.applied p rest route hq hn)

theorem processHeads_poolMoves (l : List Program) (s u : State) (h : PoolMoves u (s.setStage l)) :
    PoolMoves u (processHeads l s) := by
  refine processHeads_induct (PoolMoves u) (fun t p rest hq hn h => ?_) (fun t p rest hq hd _ h => ?_)
    (fun t p rest hq _ _ h => ?_) l s h
  · exact h.trans (t.applyHead_poolMoves p rest 1 hq hn)
  · refine h.trans ((PoolMoves.of_move (.restated p.window (.draining .normal) hd (by simp))).trans ?_)
    exact .of_frame rfl rfl rfl rfl
  · exact (h.trans (t.cutOver_poolMoves p.window)).trans
      (State.applyHead_poolMoves _ p rest 4 (by simpa using hq) (Or.inr (t.cutOver_empties p.window)))

theorem State.finishDrain_poolMoves (s : State) : PoolMoves s s.finishDrain := by
  unfold State.finishDrain
  split
  · exact .refl s
  · rename_i p rest hq
    split
    · rename_i hc
      obtain ⟨-, hn⟩ : (s.win p.window).state.isDraining = true ∧ s.holdsContexts p.window = false := by
        simpa using hc
      have ht : PoolMoves s (s.setDrainTimer none) := .of_frame rfl rfl rfl rfl
      refine processHeads_poolMoves rest _ s ?_
      refine (ht.trans (State.applyHead_poolMoves _ p rest (s.win p.window).state.route hq (Or.inr hn))).trans ?_
      exact .of_frame rfl rfl rfl (State.applyHead_stage ..).symm
    · exact .refl s

theorem State.afterPool_poolMoves (s : State) : PoolMoves s s.afterPool :=
  s.keepRun_poolMoves.trans (State.finishDrain_poolMoves _)

/-! ### Requests -/

/-- The touched slots of a sample write are distinct (R7). -/
theorem nodup_samplesOf (fmt : SampleFormat) (data : List Byte) (f k : Nat) :
    ((samplesOf fmt data f k).map Prod.fst).Nodup := by
  simp only [samplesOf, List.map_map]
  exact List.nodup_range.map fun x y h => Nat.add_left_cancel h

theorem State.takeSamples_poolMoves (s : State) (r : Request) (link : Nat) (d : Decoded) (kept : Option Timer)
    (hd : (s.win d.window).decodes = true) : PoolMoves s (s.takeSamples r link d kept) := by
  unfold State.takeSamples
  dsimp only
  split
  · rename_i ha
    have ht : PoolMoves s ((s.setIntake .opened).rolReady link .ok []) := .of_same rfl rfl rfl
    refine (ht.trans (.of_move (.absorbed _ _ (nodup_samplesOf ..) hd ?_))).trans (State.afterPool_poolMoves _)
    rw [State.countP_samplesOf]
    exact State.disposition_absorbed ha
  · exact .of_frame rfl rfl rfl rfl
  · exact .of_same rfl rfl rfl
  · exact .of_frame (by simp) (by simp) (by simp) (by simp)

theorem State.classify_poolMoves (s : State) (r : Request) (link : Nat) (kept : Option Timer) :
    PoolMoves s (s.classify r link kept) := by
  unfold State.classify
  split
  · exact .of_same (by simp) (by simp) (by simp)
  · exact .of_same (by simp) (by simp) (by simp)
  · exact .of_same (by simp) (by simp) (by simp)
  · rename_i d hs
    exact s.takeSamples_poolMoves r link d kept (State.sort_sampleWrite_decodes hs)
  · exact .of_same (by simp) (by simp) (by simp)

theorem State.release_poolMoves (s : State) : PoolMoves s s.release := by
  unfold State.release
  split
  · exact .refl s
  · exact .refl s
  · refine .trans ?_ (State.classify_poolMoves ..)
    exact .of_frame rfl rfl rfl rfl

theorem State.settle_poolMoves (before s : State) : PoolMoves s (State.settle before s) := by
  unfold State.settle
  dsimp only
  split
  · exact (s.keepRun_poolMoves.trans (State.finishDrain_poolMoves _)).trans (State.release_poolMoves _)
  · exact s.keepRun_poolMoves

/-! ### The rows -/

theorem State.present_poolMoves (s : State) (r : Request) : PoolMoves s (s.present r) := by
  unfold State.present
  split
  · refine .trans ?_ (State.classify_poolMoves ..)
    exact .of_same rfl rfl rfl
  · exact .refl s

theorem State.deliver_poolMoves (s : State) : PoolMoves s s.deliver := by
  unfold State.deliver
  repeat' split
  all_goals exact .of_same rfl rfl rfl

theorem State.holdExpiry_poolMoves (s : State) : PoolMoves s s.holdExpiry := by
  unfold State.holdExpiry
  split
  · split
    · exact .of_frame (by simp) (by simp) (by simp) (by simp)
    · exact .refl s
  all_goals exact .refl s

theorem State.idleExpiry_poolMoves (s : State) (w : Fin 16) (slot : Nat) : PoolMoves s (s.idleExpiry w slot) := by
  unfold State.idleExpiry
  split
  · exact .refl s
  · rename_i i _
    split
    · rename_i a ha
      split
      · exact (s.idleEnd_poolMoves i a ha).trans (State.settle_poolMoves ..)
      · exact .refl s
    all_goals exact .refl s

theorem State.drainExpiry_poolMoves (s : State) : PoolMoves s s.drainExpiry := by
  unfold State.drainExpiry
  split
  · rename_i p rest t _ _
    split
    · rename_i hc
      dsimp only
      generalize hu : (s.setDrainTimer none).record _ _ _ _ _ = u
      have hsu : PoolMoves s u := hu ▸ .of_frame rfl rfl rfl rfl
      have hd : ((u.forceContexts p.window).win p.window).decodes = true := by
        rw [State.decodes_of_shape (u.forceContexts_carries p.window).shape, ← hu]
        exact Window.decodes_of_isDraining (by rw [State.record_win, State.setDrainTimer_win, hc.1]; rfl)
      exact ((hsu.trans (u.forceContexts_poolMoves p.window)).trans
        (.of_move (.restated p.window (.draining .forced) hd (by simp)))).trans (State.settle_poolMoves ..)
    · exact .refl s
  all_goals exact .refl s

theorem State.afterUnreachable_poolMoves (s : State) : PoolMoves s s.afterUnreachable := by
  have hi (t : State) : PoolMoves t t.issuePoints := .of_same (by simp) (by simp) (by simp)
  unfold State.afterUnreachable
  dsimp only
  refine .trans (.trans (.trans ?_ (keepTests_poolMoves ..)) (hi _)) (State.keepRun_poolMoves _)
  exact .of_same rfl rfl rfl

theorem State.commitEntry_poolMoves (s : State) : PoolMoves s s.commitEntry := by
  unfold State.commitEntry
  split
  · exact .refl s
  · rename_i i c hc
    split
    · obtain ⟨rest, hl, -, -⟩ := State.commitCandidate_some hc
      have hg := State.grantCommit_poolMoves c hl
      dsimp only
      split
      · exact (hg.trans (State.afterUnreachable_poolMoves _)).trans (State.settle_poolMoves ..)
      · exact hg.trans (State.settle_poolMoves ..)
    · exact .refl s

theorem State.ingressEntry_poolMoves (s : State) : PoolMoves s s.ingressEntry := by
  unfold State.ingressEntry
  split
  · exact .refl s
  · exact .refl s
  · split
    · exact .of_same (by simp) (by simp) (by simp)
    · exact .refl s

theorem State.send_pa (s : State) (e : EgressEntry) : (s.send e).pa = s.pa := by
  unfold State.send
  dsimp only
  split <;> simp

theorem State.issue_poolMoves (s : State) (ready : Bool) : PoolMoves s (s.issue ready) := by
  unfold State.issue
  split
  · exact .refl s
  · rename_i e _
    obtain ⟨hw, ha⟩ := s.send_frame e
    have hq := s.send_pa e
    split
    · exact .of_same (by simp) (by simp) (by simp)
    · split
      · exact .of_same (by simpa using hw) (by simp [ha]) (by simp [hq])
      · exact .refl s

theorem State.memoryResponse_poolMoves (s : State) (st : LinkStatus) (d : Lanes) :
    PoolMoves s (s.memoryResponse st d) := by
  unfold State.memoryResponse
  repeat' split
  all_goals exact .of_same (by simp) (by simp) (by simp)

theorem State.responseExpiry_poolMoves (s : State) : PoolMoves s s.responseExpiry := by
  unfold State.responseExpiry
  repeat' split
  all_goals exact .of_same (by simp) (by simp) (by simp)

theorem State.stageProgram_poolMoves (s : State) (a : List Byte) (p : Program) (ha : stagedProgram a = some p) :
    PoolMoves s (s.stageProgram p) := by
  unfold State.stageProgram
  split
  · rename_i hq
    refine (processHeads_poolMoves [p] s s (.of_move (.frame rfl rfl rfl fun q hq => Or.inr ⟨a, ?_⟩))).trans
      (State.release_poolMoves _)
    rw [List.mem_singleton.1 hq, ha]
  · rename_i q qs hq
    refine .of_move (.frame rfl rfl rfl fun r hr => ?_)
    rw [State.setStage_pa, List.mem_append, ← hq] at hr
    exact hr.imp_right fun h => ⟨a, by rw [List.mem_singleton.1 h, ha]⟩

theorem State.withdrawAll_poolMoves (s : State) (w : Fin 16) : PoolMoves s (s.withdrawAll w) := by
  have hsub : s.pa.stage.filter (fun p => decide (p.window ≠ w)) ⊆ s.pa.stage := List.filter_subset_self _
  unfold State.withdrawAll
  dsimp only
  split
  · exact .refl s
  · split
    · refine .trans (processHeads_poolMoves _ _ s ?_) (State.release_poolMoves _)
      have ht : PoolMoves s (s.setDrainTimer none) := .of_wt_ae rfl rfl (List.Subset.refl _)
      split
      · rename_i hd
        have hw := PoolMoves.of_move (.restated w .opened (Window.decodes_of_isDraining hd) (by simp))
        exact (ht.trans hw).trans (.of_wt_ae rfl rfl hsub)
      · exact .of_wt_ae rfl rfl hsub
    · exact .of_wt_ae rfl rfl hsub

theorem State.flushWindow_poolMoves (s : State) (w : Fin 16) : PoolMoves s (s.flushWindow w) := by
  unfold State.flushWindow
  dsimp only
  refine .trans (.trans (s.completeAll_poolMoves (s.openInOrder w) true true) ?_) (State.settle_poolMoves ..)
  split <;> exact .of_frame rfl rfl rfl rfl

theorem State.engineResetBlocks_poolMoves (s : State) : PoolMoves s s.engineResetBlocks := by
  refine .of_move (.cleared (fun i => ?_) rfl (fun w hw => ?_) rfl)
  · simp [State.engineResetBlocks, State.ctx, AE.reset]
  · have he : s.engineResetBlocks.win w = (s.win w).engineReset := by simp [State.engineResetBlocks, State.win]
    rw [he] at hw ⊢
    refine ⟨?_, rfl⟩
    by_cases hd : (s.win w).state.isDraining = true
    · exact Window.decodes_of_isDraining hd
    · simpa [Window.engineReset, hd, Window.decodes] using hw

theorem State.resetBlocks_poolMoves (s : State) (h : ResetHold) : PoolMoves s (s.resetBlocks h) := by
  refine .of_move (.cleared (fun i => ?_) rfl (fun w hd => ?_) rfl)
  · simp [State.resetBlocks, State.reset, State.ctx, AE.reset]
  · have hw : (s.resetBlocks h).win w = Window.reset := by simp [State.resetBlocks, State.reset, State.win]
    rw [hw] at hd
    cases hd

/-- Every row is a run of changes of the pool, the Commit List and the programs. -/
theorem rowRel_poolMoves : RowRel PoolMoves where
  refl := .refl
  trans := .trans
  registers _ hw ha _ _ hq := .of_same hw ha hq
  present := State.present_poolMoves
  deliver := State.deliver_poolMoves
  holdExpiry := State.holdExpiry_poolMoves
  idleExpiry := State.idleExpiry_poolMoves
  drainExpiry := State.drainExpiry_poolMoves
  commitEntry := State.commitEntry_poolMoves
  ingressEntry := State.ingressEntry_poolMoves
  issue := State.issue_poolMoves
  memoryResponse := State.memoryResponse_poolMoves
  responseExpiry := State.responseExpiry_poolMoves
  stage s a p ha _ := s.stageProgram_poolMoves a p ha
  withdraw := State.withdrawAll_poolMoves
  flush s w _ _ := s.flushWindow_poolMoves w
  engineReset := State.engineResetBlocks_poolMoves
  release := State.release_poolMoves
  resetBlocks := State.resetBlocks_poolMoves

/-- Every step is a run of changes of the pool, the Commit List and the programs. -/
theorem step_poolMoves {s t : State} (h : step s = .next t) : PoolMoves s t := rowRel_poolMoves.step h

end Sys2Proof.Machine

/-! PROOF. The pool laws (R39, R46): each kind of change keeps them. -/

namespace Sys2Proof.Machine

/-! ### R46 and the second law of R39 -/

theorem PoolLaw.freed {s t : State} (h : PoolLaw s) (hc : ∀ i, t.ctx i = s.ctx i ∨ t.ctx i = .free)
    (hl : t.ae.commitList = s.ae.commitList.filter (fun i => (t.ctx i).isCommitting)) : PoolLaw t := by
  obtain ⟨⟨hn, hm⟩, hone⟩ := h
  have hstay (i : Fin 64) (hi : (t.ctx i).isFree = false) : t.ctx i = s.ctx i := by
    rcases hc i with h | h
    · exact h
    · simp [h, Context.isFree] at hi
  refine ⟨⟨hl ▸ hn.filter _, fun i => ?_⟩, hone.of_keys fun i w slot hk => ?_⟩
  · rw [hl, List.mem_filter, hm, and_iff_right_iff_imp]
    intro ht
    rwa [← hstay i (by cases hx : t.ctx i <;> simp_all [Context.isFree, Context.isCommitting])]
  · rwa [← hstay i (by cases hx : t.ctx i <;> simp_all [Context.isFree, Context.isKey])]

/-- An OPEN context joins the tail of the Commit List (R46). -/
theorem PoolLaw.joined {s t : State} (h : PoolLaw s) {i : Fin 64} {c : Completed} (ha : s.ctx i = .opened c.acc)
    (hp : t.ae.pool = s.ae.pool.set i.val (.committing c)) (hl : t.ae.commitList = s.ae.commitList ++ [i]) :
    PoolLaw t := by
  obtain ⟨⟨hn, hm⟩, hone⟩ := h
  have hctx := State.ctx_of_set hp
  have hi : i ∉ s.ae.commitList := by rw [hm, ha]; simp [Context.isCommitting]
  refine ⟨⟨?_, fun j => ?_⟩, hone.of_keys fun j w slot hk => ?_⟩
  · rw [hl, List.nodup_append_comm]
    exact List.nodup_cons.2 ⟨hi, hn⟩
  · rw [hl, List.mem_append, List.mem_singleton, hm, hctx]
    by_cases hij : i = j
    · simp [hij, Context.isCommitting]
    · simp [hij, Ne.symm hij]
  · rw [hctx] at hk
    split at hk
    · cases hk
    · exact hk

theorem PoolLaw.complete {s : State} (h : PoolLaw s) (i : Fin 64) (p f : Bool) : PoolLaw (s.complete i p f) := by
  rcases s.complete_cases i p f with ⟨-, hs⟩ | ⟨a, ha, hae⟩ | ⟨c, ha, hae⟩
  · rwa [hs]
  · have hctx := State.ctx_of_set (congrArg AE.pool hae)
    refine h.freed (fun j => ?_) ?_
    · rw [hctx]
      split
      · exact Or.inr rfl
      · exact Or.inl rfl
    · rw [h.1.filter_eq_self fun j hj => ?_, hae]
      rw [hctx, if_neg (by rintro rfl; simp [ha, Context.isCommitting] at hj)]
      exact hj
  · exact h.joined ha (by rw [hae]) (by rw [hae])

/-- An absorption: allocations and samples touch no COMMITTING context, and completions join the list (R42, R43). -/
theorem PoolLaw.absorb {s : State} (h : PoolLaw s) (w : Fin 16) (l : List (Nat × BitVec 48)) :
    PoolLaw (s.absorb w l) := by
  have hsampled : PoolLaw ((s.allocateAll w l).addAll w l) :=
    ⟨h.1.congr (by simp) (s.isCommitting_sampled w l), (h.2.allocateAll w l).addAll w l⟩
  exact State.completeFull_induct PoolLaw (fun _ i ht => ht.complete i false false) w l _ (hsampled.of_pool rfl rfl)

/-- Every change keeps the pool laws. -/
theorem PoolLaw.move {s t : State} (hm : State.PoolMove s t) (h : PoolLaw s) : PoolLaw t := by
  cases hm with
  | frame hp hl _ _ => exact h.of_pool hp hl
  | freed hc hl _ _ => exact h.freed hc (hl h.1)
  | joined i c ha hp hl _ _ => exact h.joined ha hp hl
  | absorbed w l _ _ _ => exact h.absorb w l
  | applied p rest route _ _ => exact h.of_pool (by simp) (by simp)
  | restated w x _ _ => exact h.of_pool rfl rfl
  | cleared hf hl _ _ =>
    refine ⟨⟨by simp [hl], fun i => by simp [hl, hf, Context.isCommitting]⟩, fun i j w slot hi _ => ?_⟩
    rw [hf] at hi
    cases hi

/-- Settles O54: the contexts are counted by their states, and a step is a run of changes that each keep the laws. -/
theorem poolLawKept : Obligations.PoolLawKept := by
  unfold Obligations.PoolLawKept
  refine ⟨State.count_contexts, fun s h => h.1.length_eq, fun s t hs h => ?_⟩
  exact (step_poolMoves h).keeps (fun _ _ hm hl => hl.move hm) hs

/-! ### The third law of R39 -/

/-- A program that STAGE accepts with enable yes has N at least 1 (R138). -/
theorem stagedProgram_ratio {a : List Byte} {p : Program} (h : stagedProgram a = some p) (he : p.enable = true) :
    1 ≤ p.fields.ratio.toNat := by
  unfold stagedProgram at h
  dsimp only at h
  split_ifs at h with hw hc
  cases h
  have hr : (fieldsOf a).inRange = true := by
    by_contra hn
    have hb : (byteAt a 1).getLsbD 0 = true := he
    exact hc (by simp [hb, hn])
  simp only [Fields.inRange, Bool.and_eq_true, decide_eq_true_eq] at hr
  obtain ⟨⟨⟨-, hratio, -⟩, -⟩, -⟩ := hr
  exact hratio

/-- An OPEN context adds to what its window holds. -/
theorem State.holdsContexts_of_opened {s : State} {i : Fin 64} {a : Accum} (h : s.ctx i = .opened a) :
    s.holdsContexts a.window = true :=
  (s.holdsContexts_iff _).2 ⟨i, by rw [h]; simp [Context.inWindow, Context.acc?]⟩

/-- The third law stays when no context is opened or sampled and every program stays. -/
theorem CountLaw.of_contexts {s t : State} (h : CountLaw s) (ho : ∀ i a, t.ctx i = .opened a → s.ctx i = .opened a)
    (hin : ∀ i w, (t.ctx i).inWindow w = true → (s.ctx i).inWindow w = true) (hs : t.shape = s.shape)
    (hq : ∀ p ∈ t.pa.stage, p ∈ s.pa.stage ∨ ∃ a, stagedProgram a = some p) : CountLaw t := by
  obtain ⟨hcount, hone, hheld, hratio, hstage⟩ := h
  refine ⟨fun i a ha => ?_, hone.of_opens fun i a ha => ⟨a, ho i a ha, rfl, rfl⟩, fun w hw => ?_, fun w hw => ?_,
    fun p hp he => ?_⟩
  · rw [State.fields_of_shape hs]
    exact hcount i a (ho i a ha)
  · rw [State.decodes_of_shape hs] at hw
    have hno := (s.holdsContexts_false_iff w).1 (hheld w hw)
    refine (t.holdsContexts_false_iff w).2 fun i => ?_
    by_contra hi
    have hs := hin i w (by simpa using hi)
    rw [hno i] at hs
    cases hs
  · rw [State.decodes_of_shape hs] at hw
    rw [State.fields_of_shape hs]
    exact hratio w hw
  · rcases hq p hp with hp | ⟨a, ha⟩
    · exact hstage p hp he
    · exact stagedProgram_ratio ha he

/-- After the samples of an absorbed write, the count of an OPEN context lies between 1 and N, and it is N only for a
touched slot (R41, R42). -/
theorem CountLaw.count_of_sampled {s : State} (h : CountLaw s) {w : Fin 16} {l : List (Nat × BitVec 48)}
    (hn : (l.map Prod.fst).Nodup) (hd : (s.win w).decodes = true) {i : Fin 64} {b : Accum}
    (hb : ((s.allocateAll w l).addAll w l).ctx i = .opened b) :
    1 ≤ b.count ∧ (b.count < (s.win b.window).fields.ratio.toNat ∨
      b.count = (s.win w).fields.ratio.toNat ∧ b.window = w ∧ ∃ p ∈ l, b.slot = p.1) := by
  obtain ⟨hcount, hone, -, hratio, -⟩ := h
  have hr := hratio w hd
  by_cases hi : ∃ p ∈ l, (s.allocateAll w l).lookup w p.1 = some i
  · obtain ⟨p, hp, hl⟩ := hi
    obtain ⟨a, ha, haw, has⟩ := State.lookup_some hl
    rw [State.ctx_addAll_self _ w l hn hp hl ha] at hb
    cases hb
    have hlt : a.count < (s.win w).fields.ratio.toNat := by
      rcases s.ctx_allocateAll w l i with hs | ⟨-, q, -, hs⟩
      · exact haw ▸ (hcount i a (hs ▸ ha)).2
      · rw [hs] at ha
        cases ha
        exact hr
    refine ⟨Nat.le_add_left 1 a.count, ?_⟩
    simp only [Accum.sampled, haw, true_and]
    rcases Nat.lt_or_eq_of_le (Nat.succ_le_of_lt hlt) with hlt | heq
    · exact Or.inl hlt
    · exact Or.inr ⟨heq, p, hp, has⟩
  · rw [State.ctx_addAll_other _ w l i fun p hp hl => hi ⟨p, hp, hl⟩] at hb
    rcases s.ctx_allocateAll w l i with hs | ⟨-, p, hp, hs⟩
    · obtain ⟨h1, h2⟩ := hcount i b (hs ▸ hb)
      exact ⟨h1, Or.inl h2⟩
    · have hfresh := State.lookup_of_open (hone.allocateAll w l) hs
      exact absurd ⟨p, hp, hfresh⟩ hi

/-- An absorption keeps the third law: a context that reaches N completes (R43). -/
theorem CountLaw.absorb {s : State} (h : CountLaw s) (w : Fin 16) (l : List (Nat × BitVec 48))
    (hn : (l.map Prod.fst).Nodup) (hd : (s.win w).decodes = true)
    (hr : l.countP (fun p => (s.lookup w p.1).isNone) ≤ s.freeCount) : CountLaw (s.absorb w l) := by
  have hcarries := s.absorb_carries w l hd hr
  have hshape : (s.absorb w l).shape = s.shape := hcarries.shape
  have hsampled (i : Fin 64) (b : Accum) := h.count_of_sampled hn hd (i := i) (b := b)
  obtain ⟨-, hone, hheld, hratio, hstage⟩ := h
  generalize hu : ((s.allocateAll w l).addAll w l).count w
    (fun c => { c with absorbed := c.absorbed + BitVec.ofNat 32 l.length }) = u at *
  have habs : s.absorb w l = u.completeFull w l := by rw [← hu]; rfl
  have huctx : u.ctx = ((s.allocateAll w l).addAll w l).ctx := by rw [← hu]; rfl
  have huone : OneOpenPerKey u := by
    have := (hone.allocateAll w l).addAll w l
    rw [← hu]; exact this
  have hushape : u.shape = s.shape := by simp [← hu]
  refine ⟨fun i b hb => ?_, ?_, fun v hv => ?_, fun v hv => ?_, by simpa using hstage⟩
  · rw [State.fields_of_shape hshape]
    rw [habs] at hb
    obtain ⟨hpos, hlt | ⟨heq, hw, p, hp, hslot⟩⟩ := hsampled i b (huctx ▸ State.opened_of_completeFull hb)
    · exact ⟨hpos, hlt⟩
    · have hne := State.count_of_completeFull huone hb hp hw hslot
      rw [State.fields_of_shape hushape] at hne
      exact absurd heq hne
  · rw [habs]
    exact State.completeFull_induct OneOpenPerKey (fun _ i ht => ht.complete i false false) w l u huone
  · rw [State.decodes_of_shape hshape] at hv
    by_contra hno
    rcases hcarries.holds v (by simpa using hno) with hs | hs
    · simp [hheld v hv] at hs
    · simp [hv] at hs
  · rw [State.decodes_of_shape hshape] at hv
    rw [State.fields_of_shape hshape]
    exact hratio v hv

/-- An apply to a window without contexts keeps the third law: its program was staged (R138). -/
theorem CountLaw.applied {s : State} (h : CountLaw s) {p : Program} {rest : List Program} (route : Nat)
    (hq : s.pa.stage = p :: rest) (hn : (s.win p.window).decodes = false ∨ s.holdsContexts p.window = false) :
    CountLaw (s.applyProgram p rest route) := by
  obtain ⟨hcount, hone, hheld, hratio, hstage⟩ := h
  have hempty : s.holdsContexts p.window = false := hn.elim (hheld p.window) id
  have hpool : (s.applyProgram p rest route).ae.pool = s.ae.pool := by simp
  have hctx := State.ctx_of_pool hpool
  have hwin := s.win_applyProgram p rest route
  refine ⟨fun i a ha => ?_, hone.of_keys (by simp [hctx]), fun w hw => ?_, fun w hw => ?_, fun q hm he => ?_⟩
  · rw [hctx] at ha
    have hne : p.window ≠ a.window := by
      intro hpw
      rw [hpw, State.holdsContexts_of_opened ha] at hempty
      cases hempty
    rw [hwin, if_neg hne]
    exact hcount i a ha
  · rw [State.holdsContexts_of_pool hpool]
    rw [hwin] at hw
    split at hw
    · rename_i hpw; rwa [← hpw]
    · exact hheld w hw
  · rw [hwin] at hw ⊢
    split
    · rename_i hpw
      rw [if_pos hpw] at hw
      cases he : p.enable with
      | true => exact hstage p (by simp [hq]) he
      | false => simp [he, Window.decodes] at hw
    · rename_i hpw
      rw [if_neg hpw] at hw
      exact hratio w hw
  · exact hstage q (by rw [hq]; exact List.mem_cons_of_mem p hm) he

/-- A window that stays OPEN or DRAINING by its program (R26, R27). -/
theorem CountLaw.restated {s : State} (h : CountLaw s) {w : Fin 16} {x : WState} (hw : (s.win w).decodes = true)
    (hx : x ≠ .disabled) : CountLaw (s.setWinState w x) := by
  obtain ⟨hcount, hone, hheld, hratio, hstage⟩ := h
  have hfields (v : Fin 16) : ((s.setWinState w x).win v).fields = (s.win v).fields := by
    rw [State.win_setWinState]
    split
    · rename_i h; rw [h]
    · rfl
  have hdec (v : Fin 16) : ((s.setWinState w x).win v).decodes = (s.win v).decodes := by
    rw [State.win_setWinState]
    split
    · rename_i h
      rw [← h, hw, Window.decodes_iff]
      exact hx
    · rfl
  refine ⟨fun i a ha => ?_, hone, fun v hv => hheld v (hdec v ▸ hv), fun v hv => ?_, hstage⟩
  · rw [hfields]; exact hcount i a ha
  · rw [hfields]; exact hratio v (hdec v ▸ hv)

/-- Every change keeps the third law. -/
theorem CountLaw.move {s t : State} (hm : State.PoolMove s t) (h : CountLaw s) : CountLaw t := by
  cases hm with
  | frame hp _ hs hq =>
    have hctx := State.ctx_of_pool hp
    exact h.of_contexts (by simp [hctx]) (by simp [hctx]) hs hq
  | freed hc _ hs hq =>
    refine h.of_contexts (fun i a ha => ?_) (fun i w hi => ?_) hs fun p hp => Or.inl (hq ▸ hp)
    · rcases hc i with hi | hi <;> rw [hi] at ha
      · exact ha
      · cases ha
    · rcases hc i with hc | hc <;> rw [hc] at hi
      · exact hi
      · cases hi
  | joined i c ha hp _ hs hq =>
    have hctx := State.ctx_of_set hp
    refine h.of_contexts (fun j a hj => ?_) (fun j w hj => ?_) hs fun p hp => Or.inl (hq ▸ hp)
    · rw [hctx] at hj
      split at hj
      · cases hj
      · exact hj
    · rw [hctx] at hj
      split at hj
      · rename_i hij
        rw [← hij, ha]
        exact hj
      · exact hj
  | absorbed w l hn hd hr => exact h.absorb w l hn hd hr
  | applied p rest route hq hn => exact h.applied route hq hn
  | restated w x hw hx => exact h.restated hw hx
  | cleared hf _ hd hq =>
    obtain ⟨-, -, -, hratio, -⟩ := h
    refine ⟨fun i a ha => ?_, fun i j w slot hi _ => ?_, fun w _ => ?_, fun w hw => ?_, by simp [hq]⟩
    · rw [hf] at ha; cases ha
    · rw [hf] at hi; cases hi
    · exact (t.holdsContexts_false_iff w).2 fun i => by rw [hf]; rfl
    · obtain ⟨hs, hfields⟩ := hd w hw
      rw [hfields]
      exact hratio w hs

/-- Settles O55: a step is a run of changes, and each keeps the third law; an absorption does so as a whole. -/
theorem countLawKept : Obligations.CountLawKept := by
  unfold Obligations.CountLawKept
  intro s t hs h
  exact (step_poolMoves h).keeps (fun _ _ hm hl => hl.move hm) hs

end Sys2Proof.Machine

/-! PROOF. A completion (R44, R45): the monitors take their turns on the record, which joins the Commit List as they left
it, or is withheld. -/

namespace Sys2Proof.Machine

/-! ### The monitors -/

/-- No monitor evaluates the results of window `w` (R86). -/
def State.Unwatched (s : State) (w : Fin 16) : Prop :=
  ∀ m, (s.mon m).enabled = false ∨ (s.mon m).state = .latched ∨ (s.mon m).mask.getLsbD w.val = false

theorem Eval.turn_of_not_evaluates {w : Fin 16} {slot : Nat} {e : Eval} {m : Fin 4}
    (h : (e.s.mon m).evaluates w = false) : Eval.turn w slot e m = e := by
  simp [Eval.turn, h]

theorem State.Unwatched.not_evaluates {s : State} {w : Fin 16} (h : s.Unwatched w) (m : Fin 4) :
    (s.mon m).evaluates w = false := by
  unfold Monitor.evaluates
  rcases h m with h | h | h
  · simp [h]
  · simp [h]
  · rw [h, Bool.and_false]

/-- With no monitor on the window an evaluation changes nothing (R86). -/
theorem evaluate_of_unwatched {s : State} {w : Fin 16} (h : s.Unwatched w) (slot : Nat) (r : Result) :
    evaluate s w slot r = ⟨s, r, none⟩ := by
  have ht (m : Fin 4) : Eval.turn w slot ⟨s, r, none⟩ m = ⟨s, r, none⟩ :=
    Eval.turn_of_not_evaluates (h.not_evaluates m)
  simp [evaluate, ht]

@[simp] theorem Eval.turn_count (w : Fin 16) (slot : Nat) (e : Eval) (m : Fin 4) :
    (Eval.turn w slot e m).r.count = e.r.count := by
  unfold Eval.turn
  dsimp only
  repeat' split
  all_goals rfl

/-- The monitors set HIT flags, and leave the record's count (R89). -/
@[simp] theorem evaluate_count (s : State) (w : Fin 16) (slot : Nat) (r : Result) :
    (evaluate s w slot r).r.count = r.count := by
  simp [evaluate]

/-! ### The three outcomes -/

section
variable {s : State} {i : Fin 64} {a : Accum} {p : Bool}

/-- What the monitors make of context `i`'s record when it completes (R44). -/
def State.evalOf (s : State) (a : Accum) (isPartial : Bool) : Eval :=
  evaluate s a.window a.slot (formResult (s.applying a.window a.slot) (s.win a.window).fields a isPartial)

theorem State.complete_of_joined (ha : s.ctx i = .opened a) (hw : (s.evalOf a p).withhold = none) (f : Bool) :
    s.complete i p f = { (s.evalOf a p).s with ae := { s.ae with
      pool := s.ae.pool.set i.val (.committing (completedOf (s.win a.window).fields a p (s.evalOf a p).r f))
      commitList := s.ae.commitList ++ [i] } } := by
  unfold State.evalOf at hw ⊢
  simp [State.complete, ha, hw, State.joinCommitList, State.setCtx, State.setCommitList]

theorem State.complete_of_withheld (ha : s.ctx i = .opened a) {m : Fin 4} (hw : (s.evalOf a p).withhold = some m)
    (f : Bool) : s.complete i p f = (s.evalOf a p).s.withholdResult i a (s.evalOf a p).r m := by
  unfold State.evalOf at hw ⊢
  simp [State.complete, ha, hw]

/-- With no monitor on the window the context joins the Commit List with the record as formed (R45, R86). -/
theorem State.complete_of_unwatched (ha : s.ctx i = .opened a) (hw : s.Unwatched a.window) (f : Bool) :
    s.complete i p f = { s with ae := { s.ae with
      pool := s.ae.pool.set i.val (.committing (completedOf (s.win a.window).fields a p
        (formResult (s.applying a.window a.slot) (s.win a.window).fields a p) f))
      commitList := s.ae.commitList ++ [i] } } := by
  have he := evaluate_of_unwatched hw a.slot
    (formResult (s.applying a.window a.slot) (s.win a.window).fields a p)
  rw [State.complete_of_joined ha (by rw [State.evalOf, he]) f, State.evalOf, he]

end

/-- A withheld completion: the context FREE, its count dropped and `withheld` raised (R45, R91). -/
theorem State.withholdResult_eq (s : State) (i : Fin 64) (a : Accum) (r : Result) (m : Fin 4) :
    s.withholdResult i a r m =
      ((s.setCtx i .free).count a.window (fun c => { c with
        dropped := c.dropped + BitVec.ofNat 32 a.count, withheld := c.withheld + 1 })).record .withheld
          (some a.window) (some a.slot) (BitVec.ofNat 32 r.count) m.val := by
  unfold State.withholdResult State.drop State.count State.setWin State.record State.setCtx
  simp [State.win]

/-- A record taken at the same time by the same queue leaves the same queue (R159, R160). -/
theorem State.record_evq_congr {s t : State} (he : t.evq = s.evq) (hm : t.mp.timebase = s.mp.timebase) (k : EventKind)
    (w : Option (Fin 16)) (slot : Option Nat) (d : BitVec 32) (n : Nat) :
    (t.record k w slot d n).evq = (s.record k w slot d n).evq := by
  simp [State.record, he, hm]

theorem State.withholdResult_evq (s : State) (i : Fin 64) (a : Accum) (r : Result) (m : Fin 4) :
    (s.withholdResult i a r m).evq =
      (s.record .withheld (some a.window) (some a.slot) (BitVec.ofNat 32 r.count) m.val).evq := by
  rw [State.withholdResult_eq]
  exact State.record_evq_congr rfl rfl ..

theorem State.win_count (s : State) (w v : Fin 16) (f : Counters → Counters) :
    (s.count w f).win v = if w = v then { s.win w with counters := f (s.win w).counters } else s.win v :=
  State.win_setWin ..

/-- The applying entry, with its test spelt out (R68). -/
theorem State.applying_eq (s : State) (w : Fin 16) (slot : Nat) : s.applying w slot =
    s.rf.toList.find? (fun e => e.enabled && decide (e.window = w) && decide (e.firstSlot.toNat ≤ slot) &&
      decide (slot ≤ e.lastSlot.toNat)) := by
  simp only [State.applying, Correction.covers, Bool.decide_and, Bool.and_assoc]

/-- Settles O38, by the outcome of the evaluation: nothing withholds the record, or a monitor does. -/
theorem completionOutcome : Obligations.CompletionOutcome := by
  unfold Obligations.CompletionOutcome
  intro s i a isPartial mark ha w x target r e joined
  have hr : r = formResult (s.applying w a.slot) x a isPartial := by rw [State.applying_eq]
  have he : e = s.evalOf a isPartial := by rw [State.evalOf, ← hr]
  have hjoin := State.complete_of_joined (p := isPartial) (f := mark) ha
  have hunwatched := State.complete_of_unwatched (p := isPartial) (f := mark) ha
  rw [← he] at hjoin
  rw [← hr] at hunwatched
  refine ⟨rfl, hjoin, hunwatched, fun m hm => ?_⟩
  have hwin (v : Fin 16) : e.s.win v = s.win v := by simp [State.win, e]
  intro t
  have ht : t = e.s.withholdResult i a e.r m := by
    rw [he] at hm ⊢
    exact State.complete_of_withheld ha hm mark
  have hevq := congrArg State.evq ht
  rw [State.withholdResult_evq] at hevq
  rw [State.withholdResult_eq] at ht
  have hcount : e.r.count = a.count := evaluate_count s w a.slot r
  refine ⟨?_, ?_, fun v hv => ?_, ?_, ?_, ?_, ?_, ?_⟩
  · simp [ht, e]
  · rw [ht, State.record_win, State.win_count, if_pos rfl, State.setCtx_win, hwin]
  · rw [ht, State.record_win, State.win_count, if_neg (Ne.symm hv), State.setCtx_win, hwin]
  · simp [ht]
  · simp [ht, e]
  · simp [ht, e]
  · simp [ht, e]
  · rw [hevq, hcount]

end Sys2Proof.Machine

/-! PROOF. How an event ends (R48, R105, R144): when the head waits, when a drain does not end, and when it does. -/

namespace Sys2Proof.Machine

/-! ### A head that waits -/

theorem HeadWaits.of_nil {s : State} (h : s.ae.commitList = []) : HeadWaits s := Or.inl h

/-- The head of the Commit List waits when it is COMMITTING and KEEP does not discard it (R105, R120). -/
theorem HeadWaits.of_head {s : State} {i : Fin 64} {rest : List (Fin 64)} {c : Completed}
    (hl : s.ae.commitList = i :: rest) (hc : s.ctx i = .committing c) (hk : s.keepHit c = false) : HeadWaits s :=
  Or.inr ⟨(i, c), by simp [State.commitCandidate, hl, hc, hk]⟩

/-- A head that waits is COMMITTING. -/
theorem HeadWaits.isCommitting {s : State} (h : HeadWaits s) {i : Fin 64} (hi : i ∈ s.ae.commitList.head?) :
    (s.ctx i).isCommitting = true := by
  rcases h with h | ⟨⟨j, c⟩, hp⟩
  · simp [h] at hi
  · obtain ⟨rest, hl, hc, -⟩ := State.commitCandidate_some hp
    obtain rfl : j = i := by simpa [hl] using hi
    rw [hc]
    rfl

/-- What KEEP discards is read from the programs in force and the Slot Status Memory (R105). -/
theorem State.keepHit_congr {s t : State} (hf : ∀ w, (t.win w).fields = (s.win w).fields) (ht : t.ct = s.ct) :
    t.keepHit = s.keepHit := by
  funext c
  simp only [State.keepHit, State.statusOf, State.slotIndex, State.slotAt, ht, hf]

/-- A waiting head goes on waiting while the COMMITTING contexts stay as they are, under the same programs, whatever
joins the Commit List behind it. -/
theorem HeadWaits.of_behind {s t : State} (h : HeadWaits s) (hne : s.ae.commitList ≠ []) {l : List (Fin 64)}
    (hl : t.ae.commitList = s.ae.commitList ++ l) (hc : ∀ i, (s.ctx i).isCommitting = true → t.ctx i = s.ctx i)
    (hf : ∀ w, (t.win w).fields = (s.win w).fields) (ht : t.ct = s.ct) : HeadWaits t := by
  obtain ⟨⟨i, c⟩, hp⟩ := h.resolve_left hne
  obtain ⟨rest, hi, hci, hk⟩ := State.commitCandidate_some hp
  refine .of_head (rest := rest ++ l) (by rw [hl, hi]; rfl) ((hc i (by rw [hci]; rfl)).trans hci) ?_
  rw [State.keepHit_congr hf ht, hk]

theorem HeadWaits.of_fields {s t : State} (h : HeadWaits s) (hl : t.ae.commitList = s.ae.commitList)
    (hc : ∀ i, (s.ctx i).isCommitting = true → t.ctx i = s.ctx i) (hf : ∀ w, (t.win w).fields = (s.win w).fields)
    (ht : t.ct = s.ct) : HeadWaits t := by
  by_cases hne : s.ae.commitList = []
  · exact .of_nil (hl.trans hne)
  · exact h.of_behind hne (l := []) (by rw [hl, List.append_nil]) hc hf ht

/-- KEEP discards a context when its window's policy is KEEP and its slot is unread (R105). -/
theorem State.keepHit_eq_false_iff (s : State) (c : Completed) : s.keepHit c = false ↔
    (s.win c.acc.window).fields.overrun = .replace ∨
      (s.slotAt ((s.win c.acc.window).fields.slotBase.toNat + c.acc.slot)).unread = false := by
  have hp (o : OverrunPolicy) : o ≠ .keep ↔ o = .replace := by cases o <;> simp
  simp only [State.keepHit, State.statusOf, State.slotIndex, Bool.and_eq_false_iff, decide_eq_false_iff_not, hp]

/-! ### The end of an event -/

theorem State.drainEnds_of_empty {s : State} (h : s.pa.stage = []) : s.drainEnds = false := by
  simp [State.drainEnds, h]

/-- No drain ends while the head's window holds a context (R144). -/
theorem State.drainEnds_of_holds {s : State} (h : ∀ p rest, s.pa.stage = p :: rest → s.holdsContexts p.window = true) :
    s.drainEnds = false := by
  unfold State.drainEnds
  split
  · rfl
  · rename_i p rest hs
    simp [h p rest hs]

theorem State.finishDrain_of_not_ends {s : State} (h : s.drainEnds = false) : s.finishDrain = s := by
  unfold State.drainEnds at h
  unfold State.finishDrain
  split
  · rfl
  · rename_i p rest hs
    rw [hs] at h
    simp [h]

/-- With the head waiting and no request held, an event ends with the end of a drain, if one ends. -/
theorem State.settle_of_noHeld (before : State) {s : State} (h : HeadWaits s) (hn : s.NoHeld) :
    State.settle before s = s.finishDrain := by
  have hr : s.finishDrain.release = s.finishDrain := State.release_of_noHeld fun x hx => hn x (by simpa using hx)
  simp only [State.settle, State.keepRun_of_headWaits h, hr]
  split
  · rfl
  · rename_i hc
    exact (State.finishDrain_of_not_ends (by simp at hc; exact hc.1)).symm

/-- With the head waiting, no drain that ends and no more FREE contexts than before, an event ends as it is (R48). -/
theorem State.settle_of_still {before s : State} (h : HeadWaits s) (hd : s.drainEnds = false)
    (hf : s.freeCount ≤ before.freeCount) : State.settle before s = s := by
  simp [State.settle, State.keepRun_of_headWaits h, hd, hf]

/-- The end of the last drain staged: the timer is stopped and the program applied or rejected (R144, R146). -/
theorem State.finishDrain_of_last {s : State} {p : Program} (hs : s.pa.stage = [p])
    (hd : (s.win p.window).state.isDraining = true) (hn : s.holdsContexts p.window = false) :
    s.finishDrain = (s.setDrainTimer none).applyHead p [] (s.win p.window).state.route := by
  have hstage (t : State) (h : t.pa.stage = []) : t.setStage [] = t := by rw [← h]; rfl
  unfold State.finishDrain
  rw [hs]
  simp only [hd, hn, Bool.not_false, Bool.and_true, if_true, processHeads]
  exact hstage _ (State.applyHead_stage ..)

/-! ### The idle expiry (R53 to R55) -/

/-- With no interval that is due, nothing happens (R53; logs 2 and 3). -/
theorem State.idleExpiry_of_not_due {s : State} {w : Fin 16} {slot : Nat}
    (h : ∀ i a, s.ctx i = .opened a → a.window = w → a.slot = slot → s.idleDue a = false) :
    s.idleExpiry w slot = s := by
  unfold State.idleExpiry
  cases hl : s.lookup w slot with
  | none => rfl
  | some i =>
    obtain ⟨a, ha, hw, hs⟩ := State.lookup_some hl
    simp [ha, h i a ha hw hs]

theorem State.idleExpiry_of_due {s : State} {i : Fin 64} {a : Accum} (hone : OneOpenPerKey s)
    (ha : s.ctx i = .opened a) (hd : s.idleDue a = true) :
    s.idleExpiry a.window a.slot = State.settle s (s.idleEnd i a) := by
  simp [State.idleExpiry, State.lookup_of_open hone ha, ha, hd]

/-- An idle interval is due from its limit on, when the limit is above 0 (R53; log 3). -/
theorem State.idleDue_iff (s : State) (a : Accum) : s.idleDue a = true ↔
    (s.win a.window).fields.idleLimit ≠ 0 ∧
      (s.win a.window).fields.idleLimit.toNat ≤ (s.mp.timebase - a.lastSampleTime).toNat :=
  Bool.and_eq_true_iff.trans (and_congr decide_eq_true_iff decide_eq_true_iff)

theorem State.idleEnd_of_discard {s : State} {a : Accum} (h : (s.win a.window).fields.idleAction = .discard)
    (i : Fin 64) : s.idleEnd i a = ((s.setCtx i .free).count a.window
      (fun c => { c with dropped := c.dropped + BitVec.ofNat 32 a.count })).record .contextsDiscarded (some a.window)
        (some a.slot) 1 1 := by
  simp [State.idleEnd, h, State.drop]

theorem State.idleEnd_of_flush {s : State} {a : Accum} (h : (s.win a.window).fields.idleAction = .flushPartial)
    (i : Fin 64) : s.idleEnd i a = s.complete i true false := by
  simp [State.idleEnd, h]

/-- An idle discard touches no context but its own, which is OPEN (R55). -/
theorem HeadWaits.idleDiscard {s : State} (h : HeadWaits s) {i : Fin 64} {a : Accum} (ha : s.ctx i = .opened a)
    (hd : (s.win a.window).fields.idleAction = .discard) : HeadWaits (s.idleEnd i a) := by
  rw [State.idleEnd_of_discard hd]
  refine h.of_fields rfl (fun j hj => ?_) (fun w => State.fields_of_shape (by simp) w) rfl
  rw [State.record_ctx, State.count_ctx, State.ctx_setCtx, if_neg]
  rintro rfl
  simp [ha, Context.isCommitting] at hj

/-- A completion behind a head leaves it waiting; on an empty list the joining record waits unless KEEP discards it. -/
theorem HeadWaits.complete {s : State} (h : HeadWaits s) {i : Fin 64} {a : Accum} (ha : s.ctx i = .opened a) (p f : Bool)
    (hk : s.ae.commitList ≠ [] ∨ (s.win a.window).fields.overrun = .replace ∨
      (s.slotAt ((s.win a.window).fields.slotBase.toNat + a.slot)).unread = false) :
    HeadWaits (s.complete i p f) := by
  have hshape : (s.complete i p f).shape = s.shape := by simp
  have hct : (s.complete i p f).ct = s.ct := by simp
  have hkeep := State.keepHit_congr (State.fields_of_shape hshape) hct
  obtain ⟨hother, -⟩ := s.ctx_complete i p f
  have hcommitting (j : Fin 64) (hj : (s.ctx j).isCommitting = true) : (s.complete i p f).ctx j = s.ctx j :=
    hother j (by rintro rfl; simp [ha, Context.isCommitting] at hj)
  rcases s.complete_cases i p f with ⟨-, hs⟩ | ⟨b, -, hae⟩ | ⟨c, hb, hae⟩
  · rwa [hs]
  · exact h.of_fields (by rw [hae]) hcommitting (State.fields_of_shape hshape) hct
  · obtain rfl : c.acc = a := by cases hb.symm.trans ha; rfl
    by_cases hnil : s.ae.commitList = []
    · refine .of_head (i := i) (rest := []) (c := c) (by rw [hae, hnil]; rfl) ?_ ?_
      · rw [State.ctx_of_set (congrArg AE.pool hae), if_pos rfl]
      · rw [hkeep, State.keepHit_eq_false_iff]
        exact hk.resolve_left fun hne => hne hnil
    · exact h.of_behind hnil (l := [i]) (by rw [hae]) hcommitting (State.fields_of_shape hshape) hct

/-- Settles O37: an interval that is not due, and the two idle actions on one that is. -/
theorem idleExpiryEndsTheContext : Obligations.IdleExpiryEndsTheContext := by
  unfold Obligations.IdleExpiryEndsTheContext
  refine ⟨fun s w slot hr h => ?_, fun s i a hr hone hhead hheld hstage ha hlimit hdue => ?_⟩
  · show Host.Outcome.next (s.active (·.idleExpiry w slot)) = _
    rw [State.active_running hr, State.idleExpiry_of_not_due]
    rintro i a ha rfl rfl
    rw [← Bool.not_eq_true, State.idleDue_iff]
    rintro ⟨hlimit, hdue⟩
    rcases h with h | h | h
    · simpa [ha, Context.isKey] using h i
    · exact hlimit h
    · exact absurd (h i a ha rfl rfl) (Nat.not_lt.2 hdue)
  · have hexec : exec (.idleExpiry a.window a.slot) s = .next (State.settle s (s.idleEnd i a)) := by
      show Host.Outcome.next (s.active (·.idleExpiry a.window a.slot)) = _
      rw [State.active_running hr, State.idleExpiry_of_due hone ha ((s.idleDue_iff a).2 ⟨hlimit, hdue⟩)]
    refine ⟨fun hdiscard => ?_, fun hflush hk => ?_⟩
    · rw [hexec, ← State.idleEnd_of_discard hdiscard, State.settle_of_quiet (hhead.idleDiscard ha hdiscard)]
      · rwa [State.idleEnd_of_discard hdiscard]
      · rwa [State.idleEnd_of_discard hdiscard]
    · rw [hexec, State.idleEnd_of_flush hflush, State.settle_of_quiet (hhead.complete ha true false hk)]
      · simpa using hstage
      · intro x hx
        exact hheld x (by simpa using hx)

end Sys2Proof.Machine

/-! PROOF. FLUSH (R57, R58): the OPEN contexts of the window complete one after another, in ascending slot order. -/

namespace Sys2Proof.Machine

/-! ### Several completions -/

/-- With no monitor on the window, its OPEN contexts join the Commit List in the order named (R45, R58, R86). -/
theorem State.completeAll_of_unwatched (s : State) {w : Fin 16} (hw : s.Unwatched w) (p f : Bool) (l : List (Fin 64))
    (hn : l.Nodup) (hl : ∀ i ∈ l, ∃ a, s.ctx i = .opened a ∧ a.window = w) :
    s.completeAll l p f = { s with ae := { s.ae with
      pool := (s.completeAll l p f).ae.pool, commitList := s.ae.commitList ++ l } } ∧
    (∀ i ∉ l, (s.completeAll l p f).ctx i = s.ctx i) ∧
    ∀ i ∈ l, ∀ a, s.ctx i = .opened a → (s.completeAll l p f).ctx i = .committing (completedOf (s.win w).fields a p
      (formResult (s.applying w a.slot) (s.win w).fields a p) f) := by
  induction l generalizing s with
  | nil =>
    refine ⟨?_, fun i _ => rfl, by simp⟩
    rw [List.append_nil]
    rfl
  | cons i l ih =>
    obtain ⟨hi, hn⟩ := List.nodup_cons.1 hn
    obtain ⟨a, ha, haw⟩ := hl i (by simp)
    have hstep := State.complete_of_unwatched (p := p) ha (haw ▸ hw) f
    have hctx := State.ctx_of_set (congrArg (fun t => t.ae.pool) hstep)
    rw [haw] at hstep hctx
    have hcons : s.completeAll (i :: l) p f = (s.complete i p f).completeAll l p f := rfl
    rw [hcons]
    generalize s.complete i p f = t at hstep hctx ⊢
    have htw : t.Unwatched w := by rw [hstep]; exact hw
    obtain ⟨heq, hother, hself⟩ := ih t htw hn fun j hj => by
      rw [hctx, if_neg (by rintro rfl; exact hi hj)]
      exact hl j (by simp [hj])
    refine ⟨?_, fun j hj => ?_, fun j hj b hb => ?_⟩
    · generalize (t.completeAll l p f).ae.pool = pool at heq ⊢
      rw [heq, hstep, List.append_assoc]
      rfl
    · obtain ⟨hji, hjl⟩ : j ≠ i ∧ j ∉ l := by simpa using hj
      rw [hother j hjl, hctx, if_neg (Ne.symm hji)]
    · rcases List.mem_cons.1 hj with rfl | hj
      · cases ha.symm.trans hb
        rw [hother j hi, hctx, if_pos rfl]
      · have hji : i ≠ j := by rintro rfl; exact hi hj
        have htj : t.ctx j = .opened b := by rw [hctx, if_neg hji, hb]
        rw [hself j hj b htj, hstep]
        rfl

/-- Such completions free no context and leave each in its window (R38). -/
theorem State.completeAll_serves (s : State) {w : Fin 16} (hw : s.Unwatched w) (p f : Bool) (l : List (Fin 64))
    (hn : l.Nodup) (hl : ∀ i ∈ l, ∃ a, s.ctx i = .opened a ∧ a.window = w) (i : Fin 64) :
    ((s.completeAll l p f).ctx i).isFree = (s.ctx i).isFree ∧
    ∀ v, ((s.completeAll l p f).ctx i).inWindow v = (s.ctx i).inWindow v := by
  obtain ⟨-, hother, hself⟩ := s.completeAll_of_unwatched hw p f l hn hl
  by_cases hi : i ∈ l
  · obtain ⟨a, ha, -⟩ := hl i hi
    rw [hself i hi a ha, ha]
    exact ⟨rfl, fun v => rfl⟩
  · rw [hother i hi]
    exact ⟨rfl, fun v => rfl⟩

/-- OPEN contexts of a window complete one after another: those that no monitor withholds join the Commit List in the
order named, the others are FREE and counted withheld (R45, R58, R91). -/
theorem State.completeAll_kept (s : State) {w : Fin 16} (p f : Bool) (l : List (Fin 64)) (hn : l.Nodup)
    (hl : ∀ i ∈ l, ∃ a, s.ctx i = .opened a ∧ a.window = w) :
    ∃ kept : List (Fin 64), kept.Sublist l ∧ (s.completeAll l p f).ae.commitList = s.ae.commitList ++ kept ∧
      (∀ i ∈ kept, ∃ a c, s.ctx i = .opened a ∧ (s.completeAll l p f).ctx i = .committing c ∧ c.acc = a ∧
        c.isPartial = p ∧ c.flushMark = f) ∧
      (∀ i ∈ l, i ∉ kept → (s.completeAll l p f).ctx i = .free) ∧
      (∀ i ∉ l, (s.completeAll l p f).ctx i = s.ctx i) ∧
      ((s.completeAll l p f).win w).counters.withheld =
        (s.win w).counters.withheld + BitVec.ofNat 32 (l.length - kept.length) ∧
      ((s.completeAll l p f).win w).counters.absorbed = (s.win w).counters.absorbed := by
  induction l generalizing s with
  | nil => exact ⟨[], .slnil, (List.append_nil _).symm, by simp, by simp, fun i _ => rfl, by simp [State.completeAll], rfl⟩
  | cons i l ih =>
    obtain ⟨hi, hn⟩ := List.nodup_cons.1 hn
    obtain ⟨a, ha, haw⟩ := hl i (by simp)
    have hcons : s.completeAll (i :: l) p f = (s.complete i p f).completeAll l p f := rfl
    rw [hcons]
    obtain ⟨hctx, -⟩ := s.ctx_complete i p f
    obtain ⟨kept, hsub, hlist, hkept, hfreed, hother, hwithheld, habsorbed⟩ := ih (s.complete i p f) hn fun j hj => by
      rw [hctx j (by rintro rfl; exact hi hj)]
      exact hl j (by simp [hj])
    have hik : i ∉ kept := fun h => hi (hsub.subset h)
    have hopen (j : Fin 64) (hj : j ∈ kept) : ∃ a c, s.ctx j = .opened a ∧
        ((s.complete i p f).completeAll l p f).ctx j = .committing c ∧ c.acc = a ∧ c.isPartial = p ∧ c.flushMark = f := by
      have := hkept j hj
      rwa [hctx j (by rintro rfl; exact hik hj)] at this
    have hrest (j : Fin 64) (hj : j ∉ i :: l) : ((s.complete i p f).completeAll l p f).ctx j = s.ctx j := by
      obtain ⟨hji, hjl⟩ : j ≠ i ∧ j ∉ l := by simpa using hj
      rw [hother j hjl, hctx j hji]
    have hlen := hsub.length_le
    rcases State.complete_open s i a p f ha _ rfl with ⟨-, hae, hcount⟩ | ⟨-, hae, hwt⟩
    · refine ⟨kept, hsub.cons i, by rw [hlist, hae], hopen, fun j hj hjk => ?_, hrest, ?_, ?_⟩
      · rcases List.mem_cons.1 hj with rfl | hj
        · rw [hother j hi, State.ctx_of_set (congrArg AE.pool hae), if_pos rfl]
        · exact hfreed j hj hjk
      · rw [hwithheld, hcount w, if_pos haw, List.length_cons, Nat.succ_sub hlen, Nat.succ_eq_add_one, BitVec.ofNat_add]
        exact (BitVec.add_assoc ..).trans (congrArg _ (BitVec.add_comm ..))
      · rw [habsorbed, hcount w, if_pos haw]
    · have hwin : (s.complete i p f).win w = s.win w := by simp only [State.win, hwt]
      refine ⟨i :: kept, hsub.cons_cons i, by rw [hlist, hae]; simp, fun j hj => ?_, fun j hj hjk => ?_, hrest, ?_, ?_⟩
      · rcases List.mem_cons.1 hj with rfl | hj
        · have hself := (State.ctx_of_set (congrArg AE.pool hae) j).trans (if_pos rfl)
          exact ⟨a, _, ha, (hother j hi).trans hself, rfl, rfl, rfl⟩
        · exact hopen j hj
      · obtain ⟨hji, hjk⟩ : j ≠ i ∧ j ∉ kept := by simpa using hjk
        exact hfreed j ((List.mem_cons.1 hj).resolve_left hji) hjk
      · rw [hwithheld, hwin]
        simp
      · rw [habsorbed, hwin]

/-- Completions of OPEN contexts touch no COMMITTING one (R45). -/
theorem State.ctx_completeAll_committing (s : State) (l : List (Fin 64)) (p f : Bool) {i : Fin 64}
    (hi : (s.ctx i).isCommitting = true) : (s.completeAll l p f).ctx i = s.ctx i := by
  refine State.completeAll_induct (fun t => t.ctx i = s.ctx i) p f (fun t j ht => ?_) l s rfl
  by_cases hij : i = j
  · rw [State.complete_not_open t j p f, ht]
    rw [← hij, ht]
    cases hc : s.ctx i <;> simp_all [Context.isOpen, Context.isCommitting]
  · rw [(t.ctx_complete j p f).1 i hij, ht]

/-! ### The OPEN contexts of a window, in order -/

theorem State.mem_openInOrder_iff (s : State) (w : Fin 16) (i : Fin 64) :
    i ∈ s.openInOrder w ↔ ∃ a, s.ctx i = .opened a ∧ a.window = w := by
  rw [State.mem_openInOrder]
  cases s.ctx i <;> simp [Context.isOpen, Context.inWindow, Context.acc?]

theorem State.perm_openInOrder (s : State) (w : Fin 16) :
    (s.openInOrder w).Perm ((List.finRange 64).filter (fun i => (s.ctx i).isOpen && (s.ctx i).inWindow w)) :=
  List.perm_insertionSort _ _

theorem State.nodup_openInOrder (s : State) (w : Fin 16) : (s.openInOrder w).Nodup :=
  (s.perm_openInOrder w).nodup_iff.2 ((List.nodup_finRange 64).filter _)

theorem State.length_openInOrder (s : State) (w : Fin 16) : (s.openInOrder w).length = s.openOf w := by
  rw [(s.perm_openInOrder w).length_eq, State.openOf, State.countP_pool]

/-- The order is by slot (R58, R60). -/
theorem State.sorted_openInOrder (s : State) (w : Fin 16) : (s.openInOrder w).Pairwise
    (fun i j => ∀ a b, s.ctx i = .opened a → s.ctx j = .opened b → a.slot ≤ b.slot) := by
  have htotal : Std.Total (fun i j : Fin 64 => s.slotOf i ≤ s.slotOf j) := ⟨fun i j => Nat.le_total _ _⟩
  have htrans : IsTrans (Fin 64) (fun i j => s.slotOf i ≤ s.slotOf j) := ⟨fun i j k => Nat.le_trans⟩
  refine (List.pairwise_insertionSort (fun i j : Fin 64 => s.slotOf i ≤ s.slotOf j) _).imp fun {i j} h a b ha hb => ?_
  simpa [State.slotOf, ha, hb, Context.acc?] using h

theorem State.openInOrder_eq_nil {s : State} {w : Fin 16} (h : s.openOf w = 0) : s.openInOrder w = [] :=
  List.length_eq_zero_iff.1 (by rw [s.length_openInOrder, h])

/-! ### What the contexts say of the pool -/

theorem State.freeCount_congr {s t : State} (h : ∀ i, (t.ctx i).isFree = (s.ctx i).isFree) :
    t.freeCount = s.freeCount := by
  simp only [State.freeCount, State.countP_pool, h]

theorem State.holdsContexts_congr {s t : State} {w : Fin 16} (h : ∀ i, (t.ctx i).inWindow w = (s.ctx i).inWindow w) :
    t.holdsContexts w = s.holdsContexts w := by
  rw [Bool.eq_iff_iff, State.holdsContexts_iff, State.holdsContexts_iff]
  simp only [h]

/-! ### The command -/

theorem flushEffect_badArg {b : Byte} {s : State} (h : 15 < b.toNat) : flushEffect [b] s = (s, ⟨.badArg, []⟩) := by
  have hb : windowArg b = none := (windowArg_none_iff b).2 h
  simp [flushEffect, byteAt, hb, Reply.plain]

/-- FLUSH for window `w` (R57). -/
theorem flushEffect_window {b : Byte} {w : Fin 16} (h : w.val = b.toNat) (s : State) : flushEffect [b] s =
    if (s.win w).state = .disabled then (s, ⟨.badArg, []⟩)
    else if 0 < (s.flushOf w).outstanding then (s, ⟨.busy, []⟩) else (s.flushWindow w, ⟨.accepted, []⟩) := by
  have hb : windowArg b = some w := (windowArg_iff b w).2 h.symm
  have hd : (!(s.win w).decodes) = true ↔ (s.win w).state = .disabled := by
    rw [Bool.not_eq_true', ← Bool.not_eq_true, Window.decodes_iff, not_not]
  simp [flushEffect, byteAt, hb, Reply.plain, hd]

/-- A FLUSH frame that executes, as one next state. -/
theorem exec_flush {mdi : List Bool} {s : State} {b : Byte} (hl : s.Listening) (hx : Executes 0x12 mdi [b]) :
    exec (.flush mdi) s = .next ((flushEffect [b] (s.receive 0x12 mdi).floatMdo).1.store
      (flushEffect [b] (s.receive 0x12 mdi).floatMdo).2) := by
  show Host.Outcome.next (s.selected (·.transact 0x12 mdi flushEffect)) = _
  rw [State.selected_listening hl, State.transact_run _ _ _ _ _ hx]

/-- The flush counts after the completions of a FLUSH, of which `n` joined the Commit List, and FLUSH_DONE when there is
none (R58). -/
def State.flushed (s : State) (w : Fin 16) (n : Nat) : State :=
  if n = 0 then (s.setFlush w ⟨n, 0⟩).record .flushDone (some w) none 0 0 else s.setFlush w ⟨n, 0⟩

section
variable (s : State) (w : Fin 16) (n : Nat)
theorem State.flushed_zero : s.flushed w 0 = (s.setFlush w ⟨0, 0⟩).record .flushDone (some w) none 0 0 := rfl
theorem State.flushed_pos (h : 0 < n) : s.flushed w n = s.setFlush w ⟨n, 0⟩ := if_neg (by omega)
@[simp] theorem State.flushed_ig : (s.flushed w n).ig = s.ig := by unfold State.flushed; split <;> rfl
@[simp] theorem State.flushed_wt : (s.flushed w n).wt = s.wt := by unfold State.flushed; split <;> rfl
@[simp] theorem State.flushed_ct : (s.flushed w n).ct = s.ct := by unfold State.flushed; split <;> rfl
@[simp] theorem State.flushed_eg : (s.flushed w n).eg = s.eg := by unfold State.flushed; split <;> rfl
@[simp] theorem State.flushed_pa : (s.flushed w n).pa = s.pa := by unfold State.flushed; split <;> rfl
@[simp] theorem State.flushed_mp : (s.flushed w n).mp = s.mp := by unfold State.flushed; split <;> rfl
@[simp] theorem State.flushed_ae : (s.flushed w n).ae = { s.ae with flush := s.ae.flush.set w.val ⟨n, 0⟩ } := by
  unfold State.flushed; split <;> rfl
@[simp] theorem State.flushed_ctx : (s.flushed w n).ctx = s.ctx := State.ctx_of_pool (by simp)
@[simp] theorem State.flushed_win : (s.flushed w n).win = s.win := by funext v; simp [State.win]
end

/-- FLUSH: the completions, the counts they set, and the end of the event (R58; log 8). -/
theorem State.flushWindow_eq (s : State) (w : Fin 16) {n : Nat} {kept : List (Fin 64)} (hn : kept.length = n)
    (h : (s.completeAll (s.openInOrder w) true true).ae.commitList = s.ae.commitList ++ kept) :
    s.flushWindow w = State.settle s ((s.completeAll (s.openInOrder w) true true).flushed w n) := by
  have hlen : (s.completeAll (s.openInOrder w) true true).ae.commitList.length - s.ae.commitList.length = n := by
    rw [h, List.length_append, Nat.add_sub_cancel_left, hn]
  unfold State.flushWindow
  dsimp only
  rw [hlen]
  rfl

/-- The completions of a FLUSH with no monitor on the window, and what follows them (R58; log 8). -/
theorem State.flushWindow_of_unwatched {s : State} {w : Fin 16} (hopen : 0 < s.openOf w) (hhead : HeadWaits s)
    (hstage : ∀ p rest, s.pa.stage = p :: rest → s.holdsContexts p.window = true) (hw : s.Unwatched w)
    (hkeep : s.ae.commitList = [] → (s.win w).fields.overrun = .replace ∨ ∀ i a, s.ctx i = .opened a → a.window = w →
      (s.slotAt ((s.win w).fields.slotBase.toNat + a.slot)).unread = false) :
    s.flushWindow w = (s.completeAll (s.openInOrder w) true true).setFlush w ⟨s.openOf w, 0⟩ := by
  have hmem (i : Fin 64) := s.mem_openInOrder_iff w i
  obtain ⟨heq, hother, hself⟩ := s.completeAll_of_unwatched hw true true _ (s.nodup_openInOrder w) fun i hi => (hmem i).1 hi
  have hlen := s.length_openInOrder w
  rw [s.flushWindow_eq w hlen (by rw [heq]), State.flushed_pos _ _ _ hopen]
  have hcommitting (i : Fin 64) := s.ctx_completeAll_committing (s.openInOrder w) true true (i := i)
  have hctx := s.completeAll_serves hw true true _ (s.nodup_openInOrder w) fun i hi => (hmem i).1 hi
  generalize s.openInOrder w = l at *
  generalize s.completeAll l true true = t at *
  have hlist : t.ae.commitList = s.ae.commitList ++ l := by rw [heq]
  have hwt : t.wt = s.wt := by rw [heq]
  have hct : t.ct = s.ct := by rw [heq]
  have hpa : t.pa = s.pa := by rw [heq]
  have hfields (v : Fin 16) : (t.win v).fields = (s.win v).fields := by rw [State.win, hwt]; rfl
  have hwaits : HeadWaits t := by
    by_cases hne : s.ae.commitList = []
    · obtain ⟨i, rest, hir⟩ := List.exists_cons_of_length_pos (l := l) (by omega)
      obtain ⟨a, ha, haw⟩ := (hmem i).1 (by simp [hir])
      refine .of_head (i := i) (rest := rest) (by rw [hlist, hne, hir]; rfl) (hself i (by simp [hir]) a ha) ?_
      rw [State.keepHit_congr hfields hct, State.keepHit_eq_false_iff]
      simp only [completedOf, haw]
      exact (hkeep hne).imp_right fun h => h i a ha haw
    · exact hhead.of_behind hne hlist hcommitting hfields hct
  refine State.settle_of_still (hwaits.of_fields rfl (fun _ _ => rfl) (fun _ => rfl) rfl) ?_ (Nat.le_of_eq ?_)
  · refine State.drainEnds_of_holds fun p rest hp => ?_
    rw [← hstage p rest (by rw [← hpa]; exact hp)]
    exact State.holdsContexts_congr fun i => (hctx i).2 _
  · exact State.freeCount_congr fun i => (hctx i).1

/-- A FLUSH of a window without OPEN contexts is done at once (R58). -/
theorem State.flushWindow_of_none {s : State} {w : Fin 16} (hopen : s.openOf w = 0) (hhead : HeadWaits s)
    (hstage : ∀ p rest, s.pa.stage = p :: rest → s.holdsContexts p.window = true) :
    s.flushWindow w = (s.setFlush w ⟨0, 0⟩).record .flushDone (some w) none 0 0 := by
  have hnone : s.completeAll (s.openInOrder w) true true = s := by rw [State.openInOrder_eq_nil hopen]; rfl
  rw [s.flushWindow_eq w (n := 0) (kept := []) rfl (by rw [hnone, List.append_nil]), hnone, State.flushed_zero]
  exact State.settle_of_still (hhead.of_fields rfl (fun _ _ => rfl) (fun _ => rfl) rfl)
    (State.drainEnds_of_holds hstage) (Nat.le_refl _)

/-- The completions of a FLUSH behind a waiting head, whatever the monitors do (R58, R91). -/
theorem State.flushWindow_behind_head {s : State} {w : Fin 16} (hhead : HeadWaits s) (hne : s.ae.commitList ≠ [])
    (hstage : s.pa.stage = []) (hheld : s.NoHeld) {kept : List (Fin 64)}
    (hkept : (s.completeAll (s.openInOrder w) true true).ae.commitList = s.ae.commitList ++ kept) :
    s.flushWindow w = (s.completeAll (s.openInOrder w) true true).flushed w kept.length := by
  have hshape : (s.completeAll (s.openInOrder w) true true).shape = s.shape := by simp
  rw [s.flushWindow_eq w rfl hkept]
  refine State.settle_of_quiet (hhead.of_behind hne (by simpa using hkept) (fun i hi => ?_) (fun v => ?_) (by simp))
    (by simpa using hstage) (fun x hx => hheld x (by simpa using hx))
  · rw [State.flushed_ctx, s.ctx_completeAll_committing _ true true hi]
  · rw [State.flushed_win, State.fields_of_shape hshape]

/-- A select period leaves the head of the Commit List as it was. -/
theorem HeadWaits.receive {s : State} (h : HeadWaits s) (code : Byte) (mdi : List Bool) :
    HeadWaits (s.receive code mdi).floatMdo :=
  h.of_fields rfl (fun _ _ => rfl) (fun _ => rfl) rfl

/-- Settles O27: the refusals, and what the completions do with and without monitors on the window. -/
theorem flushCompletesTheWindow : Obligations.FlushCompletesTheWindow := by
  unfold Obligations.FlushCompletesTheWindow
  intro mdi s b hl hx
  have hexec := exec_flush hl hx
  refine ⟨fun hb => by rw [hexec, flushEffect_badArg hb]; rfl, fun w hw => ?_⟩
  rw [flushEffect_window hw] at hexec
  have hstate : ((s.receive 0x12 mdi).floatMdo.win w).state = (s.win w).state := rfl
  have hcounts : (s.receive 0x12 mdi).floatMdo.flushOf w = s.flushOf w := rfl
  rw [hstate, hcounts] at hexec
  have haccepted (hs : (s.win w).state ≠ .disabled) (ho : (s.flushOf w).outstanding = 0) :
      exec (.flush mdi) s = .next (((s.receive 0x12 mdi).floatMdo.flushWindow w).store ⟨.accepted, []⟩) := by
    rw [hexec, if_neg hs, if_neg (by omega)]
  refine ⟨fun hs => ?_, fun hs ho => ?_, fun hs ho => ⟨_, haccepted hs ho, rfl⟩, fun hs ho hopen hhead hstage => ?_,
    fun hs ho hopen hhead hstage hunwatched hkeep => ?_, fun hs ho hopen hhead hne hstage hheld => ?_⟩
  · rw [hexec, if_pos hs]; rfl
  · rw [hexec, if_neg hs, if_pos ho]; rfl
  · rw [haccepted hs ho,
      State.flushWindow_of_none (s := (s.receive 0x12 mdi).floatMdo) hopen (hhead.receive 0x12 mdi) hstage]
    rfl
  · obtain ⟨heq, hother, hself⟩ := (s.receive 0x12 mdi).floatMdo.completeAll_of_unwatched hunwatched true true
      (s.openInOrder w) (s.nodup_openInOrder w) fun i hi => (s.mem_openInOrder_iff w i).1 hi
    refine ⟨{ s with ae := { s.ae with
        pool := ((s.receive 0x12 mdi).floatMdo.completeAll (s.openInOrder w) true true).ae.pool
        commitList := s.ae.commitList ++ s.openInOrder w
        flush := s.ae.flush.set w.val ⟨s.openOf w, 0⟩ } }, s.openInOrder w, ?_, rfl, s.nodup_openInOrder w,
      s.length_openInOrder w, s.mem_openInOrder_iff w, s.sorted_openInOrder w, hother, fun i a ha haw => ?_⟩
    · rw [haccepted hs ho, State.flushWindow_of_unwatched (s := (s.receive 0x12 mdi).floatMdo) hopen
        (hhead.receive 0x12 mdi) hstage hunwatched hkeep]
      show Host.Outcome.next ((((s.receive 0x12 mdi).floatMdo.completeAll (s.openInOrder w) true true).setFlush w
        ⟨s.openOf w, 0⟩).store ⟨.accepted, []⟩) = _
      rw [heq]
      rfl
    · exact hself i ((s.mem_openInOrder_iff w i).2 ⟨a, ha, haw⟩) a ha
  · obtain ⟨kept, hsub, hlist, hkept, hfreed, hother, hwithheld, habsorbed⟩ :=
      (s.receive 0x12 mdi).floatMdo.completeAll_kept true true (s.openInOrder w) (s.nodup_openInOrder w)
        fun i hi => (s.mem_openInOrder_iff w i).1 hi
    have hframe := (s.receive 0x12 mdi).floatMdo.completeAll_frame (s.openInOrder w) true true
    have hflush := State.flushWindow_behind_head (s := (s.receive 0x12 mdi).floatMdo) (hhead.receive 0x12 mdi) hne hstage
      hheld hlist
    have hrun := haccepted hs ho
    rw [hflush] at hrun
    change exec (.flush mdi) s = .next (State.store (State.flushed
      ((s.receive 0x12 mdi).floatMdo.completeAll (s.openInOrder w) true true) w kept.length) ⟨.accepted, []⟩) at hrun
    obtain ⟨-, hig, -, hct, heg, -, hmp, -⟩ := hframe
    generalize (s.receive 0x12 mdi).floatMdo.completeAll (s.openInOrder w) true true = u at *
    have hctx (i : Fin 64) : ((u.flushed w kept.length).store ⟨.accepted, []⟩).ctx i = u.ctx i :=
      congrFun (u.flushed_ctx w kept.length) i
    have hwin : ((u.flushed w kept.length).store ⟨.accepted, []⟩).win w = u.win w :=
      congrFun (u.flushed_win w kept.length) w
    refine ⟨_, s.openInOrder w, kept, hrun, s.mem_openInOrder_iff w, s.length_openInOrder w, s.sorted_openInOrder w, hsub,
      ?_, ?_, ?_, ?_, ?_, ?_, ?_, ?_, ?_, ?_, ?_⟩
    · simpa using hlist
    · simp [State.flushOf]
    · simp only [hctx]; exact hkept
    · simp only [hctx]; exact hfreed
    · simp only [hctx]; exact hother
    · rw [hwin, hwithheld]
      rfl
    · rw [hwin, habsorbed]
      rfl
    · simpa using hig
    · simpa using heg
    · simpa using hct
    · rintro rfl
      have htime : u.mp.timebase = s.mp.timebase := by rw [hmp]; rfl
      refine ⟨{ u.setFlush w ⟨0, 0⟩ with mp := s.mp }, rfl, ?_⟩
      show ((u.setFlush w ⟨0, 0⟩).record .flushDone (some w) none 0 0).evq = _
      rw [State.record_evq_congr (t := u.setFlush w ⟨0, 0⟩) (s := { u.setFlush w ⟨0, 0⟩ with mp := s.mp }) rfl htime]

end Sys2Proof.Machine

/-! PROOF. A sample write that the pool does not take (R41, R49, R51), and the release of a held request (R15, R52). -/

namespace Sys2Proof.Machine

/-! ### Burst acceptance (R41) -/

section
variable {s : State} {w : Fin 16} {f k : Nat}

theorem State.disposition_of_draining (hd : (s.win w).state.isDraining = true) (hn : 0 < s.needed w f k) :
    s.disposition w f k = .holdDrain := by
  simp [State.disposition, hd, hn]

/-- The first line of R41 does not apply to a write of a window that is not DRAINING, or that needs no context. -/
theorem State.not_held_for_drain (hd : (s.win w).state.isDraining = false ∨ s.needed w f k = 0) :
    ((s.win w).state.isDraining && decide (0 < s.needed w f k)) = false := by
  rcases hd with h | h <;> simp [h]

theorem State.disposition_of_room (hd : (s.win w).state.isDraining = false ∨ s.needed w f k = 0)
    (hr : s.needed w f k ≤ s.freeCount) : s.disposition w f k = .absorbed := by
  simp [State.disposition, State.not_held_for_drain hd, hr]

theorem State.disposition_of_hold (hd : (s.win w).state.isDraining = false) (hr : s.freeCount < s.needed w f k)
    (hx : (s.win w).fields.exhaust = .hold) (hl : s.mp.holdLimit ≠ 0) : s.disposition w f k = .holdExhaustion := by
  simpa [State.disposition, hd, Nat.not_le.2 hr, hx] using hl

theorem State.disposition_of_spill (hd : (s.win w).state.isDraining = false) (hr : s.freeCount < s.needed w f k)
    (hx : (s.win w).fields.exhaust = .spill ∨ s.mp.holdLimit = 0) :
    s.disposition w f k = .spill (if (s.win w).fields.exhaust = .spill then 1 else 2) := by
  cases he : (s.win w).fields.exhaust with
  | spill => simp [State.disposition, hd, Nat.not_le.2 hr, he]
  | hold =>
    have hl : s.mp.holdLimit = 0 := hx.resolve_left (by simp [he])
    simp [State.disposition, hd, Nat.not_le.2 hr, he, hl]

end

/-! ### What classification does with a sample write -/

section
variable {s : State} {r : Request} {d : Decoded} (link : Nat) (kept : Option Timer)

theorem State.takeSamples_of_drain (h : s.disposition d.window d.slot (r.size / (s.win d.window).fields.format.width) =
    .holdDrain) : s.takeSamples r link d kept =
      s.setIntake (.holding ⟨r, link, .drain, d.window, d.slot, r.size / (s.win d.window).fields.format.width⟩) := by
  simp [State.takeSamples, h]

theorem State.takeSamples_of_exhaustion
    (h : s.disposition d.window d.slot (r.size / (s.win d.window).fields.format.width) = .holdExhaustion) :
    s.takeSamples r link d kept = (s.setHoldTimer (some (kept.getD ⟨s.mp.timebase, s.mp.holdLimit⟩))).setIntake
      (.holding ⟨r, link, .exhaustion, d.window, d.slot, r.size / (s.win d.window).fields.format.width⟩) := by
  simp [State.takeSamples, h]

theorem State.takeSamples_of_spill {cause : Nat}
    (h : s.disposition d.window d.slot (r.size / (s.win d.window).fields.format.width) = .spill cause) :
    s.takeSamples r link d kept =
      s.spill r link d.window d.slot (r.size / (s.win d.window).fields.format.width) cause := by
  simp [State.takeSamples, h]

theorem State.takeSamples_of_absorbed
    (h : s.disposition d.window d.slot (r.size / (s.win d.window).fields.format.width) = .absorbed) :
    s.takeSamples r link d kept = (((s.setIntake .opened).rolReady link .ok []).absorb d.window
      (samplesOf (s.win d.window).fields.format r.data d.slot
        (r.size / (s.win d.window).fields.format.width))).afterPool := by
  simp [State.takeSamples, h]

end

/-- The answer of R12 to the ROL entry of a link, entry by entry. -/
theorem State.rolReady_eq (s : State) (link : Nat) (st : LinkStatus) (data : List Byte) :
    s.rolReady link st data = { s with ig := { s.ig with rol := s.ig.rol.map (fun x =>
      if x.link = link ∧ x.state = .waiting then { x with state := .ready st data } else x) } } := by
  simp only [State.rolReady, RolEntry.makeReady_eq]

/-! ### An absorption that completes nothing -/

/-- No touched slot has N samples: no context completes (R43). -/
theorem State.completeFull_of_none (s : State) (w : Fin 16) (l : List (Nat × BitVec 48))
    (h : ∀ p ∈ l, ∀ i a, s.lookup w p.1 = some i → s.ctx i = .opened a → a.count ≠ (s.win w).fields.ratio.toNat) :
    s.completeFull w l = s := by
  unfold State.completeFull
  induction l with
  | nil => rfl
  | cons p l ih =>
    have hp : s.completeIfFull w p.1 = s := by
      rcases s.completeIfFull_cases w p.1 with ⟨hs, -⟩ | ⟨i, a, hi, ha, hc, -⟩
      · exact hs
      · exact absurd hc (h p (by simp) i a hi ha)
    rw [List.foldl_cons, hp]
    exact ih fun q hq => h q (by simp [hq])

/-- The state after an absorbed write, less its completions (R42). -/
def State.sampled (s : State) (w : Fin 16) (l : List (Nat × BitVec 48)) : State :=
  ((s.allocateAll w l).addAll w l).count w (fun c => { c with absorbed := c.absorbed + BitVec.ofNat 32 l.length })

theorem State.sampled_ctx (s : State) (w : Fin 16) (l : List (Nat × BitVec 48)) :
    (s.sampled w l).ctx = ((s.allocateAll w l).addAll w l).ctx := rfl

@[simp] theorem State.sampled_frame (s : State) (w : Fin 16) (l : List (Nat × BitVec 48)) :
    (s.sampled w l).ig = s.ig ∧ (s.sampled w l).ct = s.ct ∧ (s.sampled w l).eg = s.eg ∧ (s.sampled w l).pa = s.pa ∧
    (s.sampled w l).evq = s.evq ∧ (s.sampled w l).mp = s.mp ∧ (s.sampled w l).ae.commitList = s.ae.commitList ∧
    (s.sampled w l).ae.holdTimer = s.ae.holdTimer ∧ (s.sampled w l).shape = s.shape := by
  simp [State.sampled]

/-- The samples are counted as absorbed, in their window only (R32). -/
theorem State.sampled_win (s : State) (w v : Fin 16) (l : List (Nat × BitVec 48)) :
    (s.sampled w l).win v = if w = v then { s.win w with counters := { (s.win w).counters with
      absorbed := (s.win w).counters.absorbed + BitVec.ofNat 32 l.length } } else s.win v := by
  have hw (x : Fin 16) : ((s.allocateAll w l).addAll w l).win x = s.win x := by simp [State.win]
  rw [State.sampled, State.win_count, hw, hw]

/-- A context that is COMMITTING is left by allocations and samples (R42). -/
theorem State.sampled_ctx_committing (s : State) (w : Fin 16) (l : List (Nat × BitVec 48)) {i : Fin 64}
    (hi : (s.ctx i).isCommitting = true) : (s.sampled w l).ctx i = s.ctx i := by
  have halloc : (s.allocateAll w l).ctx i = s.ctx i := by
    rcases s.ctx_allocateAll w l i with h | ⟨hf, -⟩
    · exact h
    · rw [hf] at hi; cases hi
  rw [State.sampled_ctx, State.ctx_addAll_other, halloc]
  intro p _ hl
  obtain ⟨a, ha, -⟩ := State.lookup_some hl
  rw [halloc] at ha
  rw [ha] at hi
  cases hi

/-- A window that holds a context holds one after allocations and samples. -/
theorem State.sampled_holds (s : State) (w v : Fin 16) (l : List (Nat × BitVec 48)) (h : s.holdsContexts v = true) :
    (s.sampled w l).holdsContexts v = true := by
  obtain ⟨i, hi⟩ := (s.holdsContexts_iff v).1 h
  rw [State.sampled, State.holdsContexts_count, State.holdsContexts_addAll]
  refine (State.holdsContexts_iff _ v).2 ⟨i, ?_⟩
  rcases s.ctx_allocateAll w l i with hs | ⟨hf, -⟩
  · rwa [hs]
  · rw [hf] at hi; cases hi

/-- With N above 1 and no touched context at N - 1, an absorption completes nothing (R43). -/
theorem State.absorb_eq_sampled {s : State} {w : Fin 16} {l : List (Nat × BitVec 48)} (hn : (l.map Prod.fst).Nodup)
    (hone : (s.win w).fields.ratio.toNat ≠ 1)
    (hfull : ∀ p ∈ l, ∀ i a, s.ctx i = .opened a → a.window = w → a.slot = p.1 →
      a.count + 1 ≠ (s.win w).fields.ratio.toNat) : s.absorb w l = s.sampled w l := by
  refine State.completeFull_of_none _ w l fun p hp i b hi hb => ?_
  have hfields : ((s.sampled w l).win w).fields = (s.win w).fields := State.fields_of_shape (by simp) w
  have hlook : (s.allocateAll w l).lookup w p.1 = some i := by
    rw [← State.lookup_addAll _ w l]
    exact hi
  obtain ⟨a, ha, haw, has⟩ := State.lookup_some hlook
  have hself := State.ctx_addAll_self _ w l hn hp hlook ha
  cases hb.symm.trans hself
  show a.count + 1 ≠ ((s.sampled w l).win w).fields.ratio.toNat
  rw [hfields]
  rcases s.ctx_allocateAll w l i with hs | ⟨-, q, -, hs⟩
  · exact hfull p hp i a (hs ▸ ha) haw has
  · cases ha.symm.trans hs
    exact Ne.symm hone

/-- Behind a waiting head, with no drain that ends, an absorption that completes nothing ends the event (R42). -/
theorem State.afterPool_sampled {s : State} (hhead : HeadWaits s)
    (hstage : ∀ p rest, s.pa.stage = p :: rest → s.holdsContexts p.window = true) (w : Fin 16)
    (l : List (Nat × BitVec 48)) : (s.sampled w l).afterPool = s.sampled w l := by
  have hpa : (s.sampled w l).pa = s.pa := by simp
  have hwaits : HeadWaits (s.sampled w l) := hhead.of_fields (by simp) (fun i hi => s.sampled_ctx_committing w l hi)
    (State.fields_of_shape (by simp)) (by simp)
  rw [State.afterPool, State.keepRun_of_headWaits hwaits]
  refine State.finishDrain_of_not_ends (State.drainEnds_of_holds fun p rest hp => ?_)
  exact s.sampled_holds w p.window l (hstage p rest (by rwa [hpa] at hp))

theorem length_samplesOf (fmt : SampleFormat) (data : List Byte) (f k : Nat) : (samplesOf fmt data f k).length = k := by
  simp [samplesOf]

/-- What R42 does with the samples of a write that brings no count to N, behind a waiting head. -/
theorem State.afterPool_absorb_of_waits {s : State} {w : Fin 16} {f k : Nat} (hhead : HeadWaits s)
    (hstage : ∀ p rest, s.pa.stage = p :: rest → s.holdsContexts p.window = true)
    (hone : (s.win w).fields.ratio.toNat ≠ 1)
    (hfull : ∀ j < k, ∀ i a, s.ctx i = .opened a → a.window = w → a.slot = f + j →
      a.count + 1 ≠ (s.win w).fields.ratio.toNat) (fmt : SampleFormat) (data : List Byte) :
    let l := samplesOf fmt data f k
    (s.absorb w l).afterPool = s.sampled w l ∧ (l.map Prod.fst).Nodup := by
  intro l
  have hnodup : (l.map Prod.fst).Nodup := nodup_samplesOf ..
  refine ⟨?_, hnodup⟩
  rw [State.absorb_eq_sampled hnodup hone, State.afterPool_sampled hhead hstage]
  intro p hp i a ha hw hs
  obtain ⟨j, hj, rfl⟩ := List.mem_map.1 hp
  exact hfull j (List.mem_range.1 hj) i a ha hw hs

/-- After an absorption with room in the pool every touched slot has an OPEN context sampled now (R42). -/
theorem State.sampled_open {s : State} {w : Fin 16} {l : List (Nat × BitVec 48)} (hn : (l.map Prod.fst).Nodup)
    (hr : l.countP (fun p => (s.lookup w p.1).isNone) ≤ s.freeCount) {p : Nat × BitVec 48} (hp : p ∈ l) :
    ∃ i a, (s.sampled w l).ctx i = .opened a ∧ a.window = w ∧ a.slot = p.1 ∧ a.lastSampleTime = s.mp.timebase := by
  obtain ⟨i, hi⟩ := Option.isSome_iff_exists.1 (s.lookup_allocateAll w l hr p hp)
  obtain ⟨a, ha, haw, has⟩ := State.lookup_some hi
  have hmp : (s.allocateAll w l).mp = s.mp := by simp
  exact ⟨i, _, State.ctx_addAll_self _ w l hn hp hi ha, haw, has, congrArg MP.timebase hmp⟩

/-! ### The command, and the release -/

/-- INGRESS_REQUEST with IGQ_READY high, as one next state (R2, R3). -/
theorem exec_ingress_accepted {s : State} {kind : LinkKind} {addr : Addr} {size : BitVec 7} {data : Lanes} {be : BitVec 64}
    {r : Request} (heq : r = linkRequest kind addr size data be) (hr : s.hold = .running) (hi : s.ig.intake = .opened)
    (hl : s.ig.rol.length < 16) :
    exec (.ingressRequest kind addr size data be) s =
      .next ((s.accepted r .waiting .opened).classify r s.ig.nextLink none) := by
  have hready : s.igqReady = true := by simp [State.igqReady, State.running, hr, hi, Config.rolEntries, hl]
  show Host.Outcome.next (s.active (·.present (linkRequest kind addr size data be))) = _
  rw [← heq, State.active_running hr, State.present, if_pos hready, State.accepted, ← hi]
  subst heq
  rfl

theorem State.release_of_holding {s : State} {h : Held} (hi : s.ig.intake = .holding h) :
    s.release = (s.setHoldTimer none).classify h.req h.link (s.keptTimer h) := by
  simp [State.release, hi]

theorem State.classify_of_sampleWrite {s : State} {r : Request} {d : Decoded} (h : s.sort r = .sampleWrite d)
    (link : Nat) (kept : Option Timer) : s.classify r link kept = s.takeSamples r link d kept := by
  simp [State.classify, h]

/-- The release of a held request whose touched slots the pool takes (R15, R42): the producer has its OK, and the hold timer
is off. -/
theorem State.release_absorbed {s : State} {h : Held} {d : Decoded} (hi : s.ig.intake = .holding h)
    (hsort : s.sort h.req = .sampleWrite d)
    (hd : (s.win d.window).state.isDraining = false ∨
      s.needed d.window d.slot (h.req.size / (s.win d.window).fields.format.width) = 0)
    (hroom : s.needed d.window d.slot (h.req.size / (s.win d.window).fields.format.width) ≤ s.freeCount) :
    s.release = ((((s.setHoldTimer none).setIntake .opened).rolReady h.link .ok []).absorb d.window
      (samplesOf (s.win d.window).fields.format h.req.data d.slot
        (h.req.size / (s.win d.window).fields.format.width))).afterPool := by
  have hsort' : (s.setHoldTimer none).sort h.req = .sampleWrite d := hsort
  rw [State.release_of_holding hi, State.classify_of_sampleWrite hsort']
  exact State.takeSamples_of_absorbed _ _ (State.disposition_of_room (s := s.setHoldTimer none) hd hroom)

/-- Settles O33: each outcome of a sample write, on its first classification and on a release. -/
theorem sampleWriteHeldOrSpilled : Obligations.SampleWriteHeldOrSpilled := by
  unfold Obligations.SampleWriteHeldOrSpilled
  refine ⟨?first, ?released⟩
  case first =>
    intro s addr size data be d hr r x k held hi hl hsort
    let t := s.accepted r .waiting .opened
    have hexec : exec (.ingressRequest .write addr size data be) s = .next (t.takeSamples r s.ig.nextLink d none) := by
      rw [exec_ingress_accepted (r := r) rfl hr hi hl, State.classify_of_sampleWrite (s := t) hsort]
    refine ⟨fun hd hn => ?_, fun ho hn => ?_⟩
    · rw [hexec, State.takeSamples_of_drain (r := r) _ _ (State.disposition_of_draining (s := t) hd hn)]
      rfl
    · have hd : (s.win d.window).state.isDraining = false := by rw [ho]; rfl
      refine ⟨fun hx hlim => ?_, fun hx => ?_⟩
      · rw [hexec, State.takeSamples_of_exhaustion (r := r) _ _ (State.disposition_of_hold (s := t) hd hn hx hlim)]
        rfl
      · rw [hexec, State.takeSamples_of_spill (r := r) _ _ (State.disposition_of_spill (s := t) hd hn hx)]
        rfl
  case released =>
    intro s h hi off answered offered
    have hrelease : s.release = off.classify h.req h.link (s.keptTimer h) := State.release_of_holding hi
    have hanswered (st : LinkStatus) : (off.rolReady h.link st []).setIntake .opened = answered st := by
      rw [State.rolReady_eq]; rfl
    have hrefused (k : EventKind) (d : Decoded) (aux : Nat) : off.refuse h.req h.link k (some d) aux =
        (answered .error).record k (some d.window) (some d.slot) (h.req.addr.setWidth 32) aux := by
      rw [← hanswered]; rfl
    refine ⟨fun d hsort => ?_, fun d cause hsort => ?_, fun hsort => ?_, fun d hsort => ?_⟩
    · rw [hrelease, ← hrefused, State.classify, show off.sort h.req = _ from hsort]
    · rw [hrelease, ← hrefused, State.classify, show off.sort h.req = _ from hsort]
    · rw [hrelease, State.classify, show off.sort h.req = _ from hsort]; rfl
    · have htaken : s.release = off.takeSamples h.req h.link d (s.keptTimer h) :=
        hrelease.trans (State.classify_of_sampleWrite (s := off) hsort _ _)
      intro x k held
      refine ⟨fun hd hn => ?_, fun hd hn => ⟨fun hx hlim => ?_, fun hx => ?_⟩, fun hd hroom => ?_⟩
      · rw [htaken, State.takeSamples_of_drain _ _ (State.disposition_of_draining (s := off) hd hn)]; rfl
      · rw [htaken, State.takeSamples_of_exhaustion _ _ (State.disposition_of_hold (s := off) hd hn hx hlim),
          State.keptTimer]
        cases h.reason <;> cases s.ae.holdTimer <;> rfl
      · rw [htaken, State.takeSamples_of_spill _ _ (State.disposition_of_spill (s := off) hd hn hx)]; rfl
      · let u := (off.setIntake .opened).rolReady h.link .ok []
        have htook : s.release = (u.absorb d.window (samplesOf x.format h.req.data d.slot k)).afterPool :=
          State.release_absorbed hi hsort hd hroom
        have hu : u.ig = (answered .ok).ig := congrArg State.ig (hanswered .ok)
        refine ⟨?_, ?_, fun hhead hstage hone hfull => ?_⟩
        · rw [htook, ← hu]; simp
        · rw [htook]; simp [u, off]
        · have hwaits : HeadWaits u := hhead.of_fields rfl (fun _ _ => rfl) (fun _ => rfl) rfl
          obtain ⟨hfinal, hnodup⟩ := State.afterPool_absorb_of_waits hwaits hstage hone hfull x.format
            h.req.data
          rw [htook, hfinal]
          refine ⟨?_, fun v hv => ?_, by simp [u, off], by simp [u, off], by simp [u, off], by simp [u, off], ?_⟩
          · rw [State.sampled_win, if_pos rfl, length_samplesOf]; rfl
          · rw [State.sampled_win, if_neg (Ne.symm hv)]; rfl
          · intro j hj
            have hp : (d.slot + j, sampleAt x.format h.req.data j) ∈ samplesOf x.format h.req.data d.slot k :=
              List.mem_map.2 ⟨j, List.mem_range.2 hj, rfl⟩
            exact State.sampled_open (s := u) hnodup ((State.countP_samplesOf u ..).trans_le hroom) hp

end Sys2Proof.Machine

/-! PROOF. What a discard drops (R60, R61), and what the end of a drain applies (R144, R150, R151). -/

namespace Sys2Proof.Machine

/-! ### The counters of discarded contexts -/

/-- A window with more samples dropped (R36). -/
def Window.dropping (x : Window) (n : Nat) : Window :=
  { x with counters := { x.counters with dropped := x.counters.dropped + BitVec.ofNat 32 n } }

@[simp] theorem Window.dropping_zero (x : Window) : x.dropping 0 = x := by
  simp [Window.dropping]

theorem Window.dropping_dropping (x : Window) (m n : Nat) : (x.dropping m).dropping n = x.dropping (m + n) := by
  simp [Window.dropping, BitVec.ofNat_add, BitVec.add_assoc]

/-- The count that a discard drops is the context's, when it is one of the window (R61). -/
theorem State.win_discard (s : State) (w v : Fin 16) (i : Fin 64) :
    (s.discard w i).win v = if w = v then (s.win w).dropping ((s.ctx i).countIn w) else s.win v := by
  unfold State.discard
  cases ha : (s.ctx i).acc? with
  | none => by_cases hv : w = v <;> simp [Context.countIn, ha, hv]
  | some a =>
    by_cases hw : a.window = w
    · subst hw
      simp [Context.countIn_of_acc ha, State.drop, State.win_count, Window.dropping]
    · have hnone : (s.win w).dropping ((s.ctx i).countIn w) = s.win w := by simp [Context.countIn_of_acc ha, hw]
      rw [hnone]
      by_cases hv : w = v
      · subst hv; simp [hw]
      · simp [hw, hv]

/-- Contexts discarded one after another drop the sum of their counts, in their window only. -/
theorem State.win_foldl_discard (s : State) (w v : Fin 16) {l : List (Fin 64)} (hl : l.Nodup) :
    (l.foldl (fun t i => t.discard w i) s).win v =
      if w = v then (s.win w).dropping (l.map fun i => (s.ctx i).countIn w).sum else s.win v := by
  induction l generalizing s with
  | nil => by_cases hv : w = v <;> simp [hv]
  | cons i l ih =>
    obtain ⟨hi, hl⟩ := List.nodup_cons.1 hl
    have hsame : l.map (fun j => ((s.discard w i).ctx j).countIn w) = l.map fun j => (s.ctx j).countIn w := by
      refine List.map_congr_left fun j hj => ?_
      rw [State.ctx_discard, if_neg]
      rintro ⟨rfl, -⟩
      exact hi hj
    rw [List.foldl_cons, ih _ hl, hsame]
    by_cases hv : w = v <;> simp [hv, State.win_discard, Window.dropping_dropping]

/-- The samples of all the window's contexts (R36). -/
theorem State.heldCount_eq (s : State) (w : Fin 16) :
    s.heldCount w = ((List.finRange 64).map fun i => (s.ctx i).countIn w).sum := by
  rw [State.heldCount, State.pool_toList, List.map_map]
  rfl

theorem sum_map_filter {α : Type} (p : α → Bool) (f : α → Nat) (l : List α) :
    ((l.filter p).map f).sum = (l.map fun x => if p x then f x else 0).sum := by
  induction l with
  | nil => rfl
  | cons x l ih => by_cases hx : p x = true <;> simp [hx, ih]

/-- The samples of the window's OPEN contexts. -/
theorem State.sum_openInOrder (s : State) (w : Fin 16) : ((s.openInOrder w).map fun i => (s.ctx i).countIn w).sum =
    (s.ae.pool.toList.map fun c => if c.isOpen then c.countIn w else 0).sum := by
  rw [((s.perm_openInOrder w).map _).sum_eq, sum_map_filter, State.pool_toList, List.map_map]
  congr 1
  refine List.map_congr_left fun i _ => ?_
  cases hw : (s.ctx i).inWindow w with
  | true => simp
  | false => simp [Context.countIn_of_not_inWindow hw]

/-! ### The comparison, the apply and the rejection -/

/-- The comparison reads which windows decode, and their programs (R29). -/
theorem State.conflict_of_fields {s t : State} (hd : ∀ v, (t.win v).decodes = (s.win v).decodes)
    (hf : ∀ v, (t.win v).fields = (s.win v).fields) (p : Program) : t.conflict p = s.conflict p := by
  simp only [State.conflict, State.regionConflicts, State.slotConflicts, hd, hf]

theorem State.win_rejectProgram (s : State) (p : Program) (rest : List Program) (cause : Nat) (v y : Fin 16) :
    (s.rejectProgram p rest cause v).win y = if p.window = y then { s.win p.window with
      state := if (s.win p.window).state.isDraining then .opened else (s.win p.window).state } else s.win y := by
  have hw := s.rejectProgram_wt_eq p rest cause v
  rw [← State.win_setWinState]
  simp only [State.win, hw]

/-- A drain that ends changes no context (R144). -/
theorem State.finishDrain_of_last_ae {s : State} {p : Program} (hs : s.pa.stage = [p])
    (hd : (s.win p.window).state.isDraining = true) (hn : s.holdsContexts p.window = false) :
    s.finishDrain.ae = s.ae ∧ s.finishDrain.pa = ⟨[], none⟩ := by
  rw [State.finishDrain_of_last hs hd hn]
  refine ⟨by simp, ?_⟩
  cases hc : (s.setDrainTimer none).conflict p with
  | none => rw [State.applyHead_of_none hc]; rfl
  | some x => rw [State.applyHead_of_some hc]; rfl

/-- The last staged program is applied at the end of its drain (R144, R151). -/
theorem State.finishDrain_applies {s : State} {p : Program} (hs : s.pa.stage = [p])
    (hd : (s.win p.window).state.isDraining = true) (hn : s.holdsContexts p.window = false)
    (hc : s.conflict p = none) :
    s.finishDrain.win p.window = ⟨if p.enable then .opened else .disabled, p.fields, ⟨0, 0, 0, 0, 0, 0, 0⟩⟩ ∧
    (∀ k < 1024, s.finishDrain.slotAt k = if s.resetByApply p k then ⟨0, false⟩ else s.slotAt k) ∧
    s.finishDrain.eg = { s.eg with queue := s.eg.queue.map (EgressEntry.staleWhere (s.resetByApply p)) } ∧
    s.finishDrain.evq = (s.record .programApplied (some p.window) none (if p.enable then 1 else 0)
      (s.win p.window).state.route).evq := by
  rw [State.finishDrain_of_last hs hd hn, State.applyHead_of_none (s := s.setDrainTimer none) hc]
  obtain ⟨hct, heg, -, hevq⟩ := (s.setDrainTimer none).applyProgram_writes p [] (s.win p.window).state.route
  exact ⟨(State.win_applyProgram ..).trans (if_pos rfl), hct, heg, hevq⟩

/-- The last staged program is rejected at the end of its drain, and its window OPEN again (R144, R150). -/
theorem State.finishDrain_rejects {s : State} {p : Program} {cause : Nat} {v : Fin 16} (hs : s.pa.stage = [p])
    (hd : (s.win p.window).state.isDraining = true) (hn : s.holdsContexts p.window = false)
    (hc : s.conflict p = some (cause, v)) :
    s.finishDrain.win p.window = { s.win p.window with state := .opened } ∧ s.finishDrain.ct = s.ct ∧
    s.finishDrain.eg = s.eg ∧ s.finishDrain.evq =
      (s.record .programRejected (some p.window) none (BitVec.ofNat 32 v.val) cause).evq := by
  rw [State.finishDrain_of_last hs hd hn, State.applyHead_of_some (s := s.setDrainTimer none) hc]
  refine ⟨(State.win_rejectProgram ..).trans ?_, by simp, by simp, rfl⟩
  rw [if_pos rfl]
  simp [hd]

/-! ### A FREE context stays FREE -/

theorem State.keepRun_keeps_free (s : State) (i : Fin 64) (h : s.ctx i = .free) : s.keepRun.ctx i = .free := by
  refine State.keepRun_induct (fun t => t.ctx i = .free) (fun t j rest c _ _ _ ht => ?_) s h
  have hp : ((t.setCommitList rest).keepDiscard j c).ae.pool = t.ae.pool.set j.val .free := by
    simp [State.keepDiscard]
  rw [State.ctx_of_set hp]
  split
  · rfl
  · exact ht

/-- The window's contexts off the Commit List and discarded (R61, R148 steps 1 and 2). -/
def State.cleared (s : State) (w : Fin 16) : State :=
  (List.finRange 64).foldl (fun t i => t.discard w i)
    (s.setCommitList (s.ae.commitList.filter (fun i => !(s.ctx i).inWindow w)))

/-- The cut-over before its KEEP run (R61, R148 steps 1 to 4). -/
def State.cut (s : State) (w : Fin 16) : State :=
  ((s.cleared w).record .contextsDiscarded (some w) none
    (BitVec.ofNat 32 (s.ae.pool.toList.countP (fun c => c.inWindow w))) 3).flushDiscard w
      (s.ae.pool.toList.countP (fun c => c.marked w))

theorem State.cutOver_eq (s : State) (w : Fin 16) : s.cutOver w = (s.cut w).keepRun := rfl

/-- The window's contexts are FREE, and no other context changes (R61). -/
theorem State.ctx_cut (s : State) (w : Fin 16) (j : Fin 64) :
    (s.cut w).ctx j = if (s.ctx j).inWindow w = true then .free else s.ctx j := by
  have hp (t : State) (n : Nat) : (t.flushDiscard w n).ctx = t.ctx := State.ctx_of_pool (by simp)
  rw [State.cut, hp, State.record_ctx, State.cleared, State.ctx_foldl_discard]
  simp

theorem processHeads_keeps_free (l : List Program) (s : State) (i : Fin 64) (h : s.ctx i = .free) :
    (processHeads l s).ctx i = .free := by
  have happly (t : State) (p : Program) (rest : List Program) (route : Nat) :
      (t.applyHead p rest route).ctx = t.ctx := State.ctx_of_pool (by simp)
  refine processHeads_induct (fun t => t.ctx i = .free) (fun t p rest _ _ ht => ?_) (fun t p _ _ _ _ ht => ?_)
    (fun t p rest _ _ _ ht => ?_) l s h
  · rwa [happly]
  · rwa [State.ctx_of_pool (s := t) (by simp)]
  · rw [happly, State.cutOver_eq]
    refine State.keepRun_keeps_free _ i ?_
    rw [State.ctx_cut, ht]
    rfl

theorem State.finishDrain_keeps_free (s : State) (i : Fin 64) (h : s.ctx i = .free) : s.finishDrain.ctx i = .free := by
  unfold State.finishDrain
  split
  · exact h
  · split
    · refine processHeads_keeps_free _ _ i ?_
      rwa [State.ctx_of_pool (s := s) (by simp)]
    · exact h

end Sys2Proof.Machine

/-! PROOF. The drain timer expires (R60, R145), and a drain ends with the last context of its window (R144, R146). -/

namespace Sys2Proof.Machine

/-! ### A drain that is forced -/

theorem State.fields_setWinState (s : State) (w v : Fin 16) (x : WState) :
    ((s.setWinState w x).win v).fields = (s.win v).fields := by
  rw [State.win_setWinState]
  by_cases hv : w = v <;> simp [hv]

/-- The event DRAIN_FORCED, and the timer stopped (R145). -/
def State.drainForced (s : State) (w : Fin 16) : State :=
  (s.setDrainTimer none).record .drainForced (some w) none (BitVec.ofNat 32 (s.openOf w)) 0

/-- The forced drain up to the end of its event (R60, R145). -/
def State.forceDrain (s : State) (w : Fin 16) : State :=
  ((s.drainForced w).forceContexts w).setWinState w (.draining .forced)

section
variable {s : State} {p : Program} {rest : List Program} {tm : Timer}

theorem State.drainExpiry_of_due (hs : s.pa.stage = p :: rest) (ht : s.pa.drainTimer = some tm)
    (hd : (s.win p.window).state = .draining .normal) (hdue : tm.limit.toNat ≤ (s.mp.timebase - tm.start).toNat) :
    s.drainExpiry = State.settle s (s.forceDrain p.window) := by
  have hdue' : tm.due s.mp.timebase = true := decide_eq_true hdue
  simp [State.drainExpiry, hs, ht, hd, hdue', State.forceDrain, State.drainForced]

/-- Before the limit has passed nothing happens (logs 2 and 3). -/
theorem State.drainExpiry_of_not_due (hs : s.pa.stage = p :: rest) (ht : s.pa.drainTimer = some tm)
    (hdue : (s.mp.timebase - tm.start).toNat < tm.limit.toNat) : s.drainExpiry = s := by
  have hdue' : tm.due s.mp.timebase = false := decide_eq_false (Nat.not_le.2 hdue)
  simp [State.drainExpiry, hs, ht, hdue']

end

/-- With no OPEN context the idle_action does nothing (R60). -/
theorem State.forceContexts_of_none {s : State} {w : Fin 16} (h : s.openOf w = 0) : s.forceContexts w = s := by
  unfold State.forceContexts
  rw [State.openInOrder_eq_nil h]
  split
  · rfl
  · simp [h]

/-- What the forced drain does under DISCARD (R60). -/
theorem State.forceDrain_of_discard {s : State} {w : Fin 16} (hx : (s.win w).fields.idleAction = .discard) :
    let f := s.record .drainForced (some w) none (BitVec.ofNat 32 (s.openOf w)) 0
    let sum := (s.ae.pool.toList.map fun c => if c.isOpen then c.countIn w else 0).sum
    (∀ j, (s.forceDrain w).ctx j =
      if (s.ctx j).isOpen = true ∧ (s.ctx j).inWindow w = true then .free else s.ctx j) ∧
    (∀ v, (s.forceDrain w).win v =
      if w = v then { (s.win w).dropping sum with state := .draining .forced } else s.win v) ∧
    (s.forceDrain w).pa = { s.pa with drainTimer := none } ∧
    (s.forceDrain w).ae.commitList = s.ae.commitList ∧
    (s.forceDrain w).evq = (if s.openOf w = 0 then f else
      f.record .contextsDiscarded (some w) none (BitVec.ofNat 32 (s.openOf w)) 2).evq ∧
    (s.forceDrain w).ct = s.ct ∧ (s.forceDrain w).ig = s.ig ∧ (s.forceDrain w).mp = s.mp := by
  intro f sum
  let u := s.drainForced w
  let d := (s.openInOrder w).foldl (fun t i => t.discard w i) u
  let e := if s.openOf w = 0 then d else d.record .contextsDiscarded (some w) none (BitVec.ofNat 32 (s.openOf w)) 2
  have hforce : s.forceDrain w = e.setWinState w (.draining .forced) := by
    have hx' : (u.win w).fields.idleAction = .discard := hx
    rw [State.forceDrain, State.forceContexts, hx']
    rfl
  have he : e.ae = d.ae ∧ e.wt = d.wt ∧ e.pa = d.pa ∧ e.ct = d.ct ∧ e.ig = d.ig ∧ e.mp = d.mp := by
    simp only [e]; split <;> exact ⟨rfl, rfl, rfl, rfl, rfl, rfl⟩
  obtain ⟨hae, hwt, hpa, hct, hig, hmp⟩ := he
  have hctx : e.ctx = d.ctx := State.ctx_of_pool (congrArg AE.pool hae)
  have hwin (v : Fin 16) : e.win v = if w = v then (s.win w).dropping sum else s.win v := by
    have hsum : ((s.openInOrder w).map fun i => (s.ctx i).countIn w).sum = sum := s.sum_openInOrder w
    rw [← hsum]
    exact (congrArg (fun x : Vector Window 16 => x[v.val]) hwt).trans (u.win_foldl_discard w v (s.nodup_openInOrder w))
  rw [hforce]
  refine ⟨fun j => ?_, fun v => ?_, ?_, ?_, ?_, ?_, ?_, ?_⟩
  · have hfold := u.ctx_foldl_discard w (s.openInOrder w) j
    rw [State.setWinState_ctx, hctx]
    simp only [s.mem_openInOrder, and_assoc, show u.ctx = s.ctx from rfl, and_self] at hfold
    exact hfold
  · rw [State.win_setWinState]
    simp only [hwin]
    by_cases hv : w = v <;> simp [hv]
  · exact hpa.trans (by simp [d, u, State.drainForced])
  · exact (congrArg AE.commitList hae).trans (by simp [d, u, State.drainForced])
  · show e.evq = _
    have hevq : d.evq = f.evq := by simp only [d, foldl_discard_frame]; rfl
    have htime : d.mp.timebase = f.mp.timebase := by simp only [d, foldl_discard_frame]; rfl
    simp only [e]
    split
    · exact hevq
    · exact State.record_evq_congr hevq htime ..
  · exact hct.trans (by simp [d, u, State.drainForced])
  · exact hig.trans (by simp [d, u, State.drainForced])
  · exact hmp.trans (by simp [d, u, State.drainForced])

/-- A forced drain changes no program (R145). -/
theorem State.forceDrain_fields {s : State} {w : Fin 16} (hx : (s.win w).fields.idleAction = .discard) (v : Fin 16) :
    ((s.forceDrain w).win v).fields = (s.win v).fields := by
  obtain ⟨-, hwin, -⟩ := State.forceDrain_of_discard hx
  rw [hwin]
  by_cases hv : w = v <;> simp [hv, Window.dropping]

/-- A context that serves a window is OPEN or COMMITTING (R38). -/
theorem Context.isCommitting_of_inWindow {c : Context} {w : Fin 16} (h : c.inWindow w = true) (ho : c.isOpen = false) :
    c.isCommitting = true := by
  cases c with
  | free => cases h
  | opened a => cases ho
  | committing x => rfl

theorem Context.not_isCommitting_of_isOpen {c : Context} (h : c.isOpen = true) : c.isCommitting = false := by
  cases c with
  | free => rfl
  | opened a => rfl
  | committing x => cases h

/-- Under DISCARD the window still holds its COMMITTING contexts (R60). -/
theorem State.forceDrain_holds_iff {s : State} {w : Fin 16} (hx : (s.win w).fields.idleAction = .discard) :
    (s.forceDrain w).holdsContexts w = true ↔ ∃ i, (s.ctx i).isCommitting = true ∧ (s.ctx i).inWindow w = true := by
  obtain ⟨hctx, -⟩ := State.forceDrain_of_discard hx
  rw [State.holdsContexts_iff]
  refine exists_congr fun j => ?_
  rw [hctx]
  split
  · rename_i h
    obtain ⟨ho, -⟩ := h
    exact ⟨fun hf => by simp [Context.inWindow, Context.acc?] at hf,
      fun ⟨hc, _⟩ => absurd hc (by simp [Context.not_isCommitting_of_isOpen ho])⟩
  · rename_i h
    exact ⟨fun hw => ⟨Context.isCommitting_of_inWindow hw (by simpa using fun ho => h ⟨ho, hw⟩), hw⟩, And.right⟩

/-- The expiry under DISCARD, with nothing held and a waiting head, ends with the end of the drain (R145). -/
theorem State.drainExpiry_of_discard {s : State} {p : Program} {rest : List Program} {tm : Timer} (hhead : HeadWaits s)
    (hheld : s.NoHeld) (hs : s.pa.stage = p :: rest) (ht : s.pa.drainTimer = some tm)
    (hd : (s.win p.window).state = .draining .normal) (hdue : tm.limit.toNat ≤ (s.mp.timebase - tm.start).toNat)
    (hx : (s.win p.window).fields.idleAction = .discard) :
    s.drainExpiry = (s.forceDrain p.window).finishDrain := by
  obtain ⟨hctx, -, -, hlist, -, hct, hig, -⟩ := State.forceDrain_of_discard hx
  rw [State.drainExpiry_of_due hs ht hd hdue, State.settle_of_noHeld]
  · refine hhead.of_fields hlist (fun j hj => ?_) (State.forceDrain_fields hx) hct
    rw [hctx, if_neg]
    rintro ⟨ho, -⟩
    simp [Context.not_isCommitting_of_isOpen ho] at hj
  · intro h hh
    exact hheld h (hig ▸ hh)

/-- The drain timer expires under DISCARD: what the DISCARD did, and the end of the drain when no record of the window
waits for its commit (R60, R145). -/
theorem State.drainExpiry_discard_outcome {s : State} {p : Program} {rest : List Program} {tm : Timer}
    (hhead : HeadWaits s) (hheld : s.NoHeld) (hs : s.pa.stage = p :: rest) (ht : s.pa.drainTimer = some tm)
    (hd : (s.win p.window).state = .draining .normal) (hdue : tm.limit.toNat ≤ (s.mp.timebase - tm.start).toNat)
    (hx : (s.win p.window).fields.idleAction = .discard) :
    let w := p.window
    let x := (s.win w).fields
    let t := s.drainExpiry
    let sum := (s.ae.pool.toList.map (fun c => if c.isOpen then c.countIn w else 0)).sum
    let f := s.record .drainForced (some w) none (BitVec.ofNat 32 (s.openOf w)) 0
    let g := if s.openOf w = 0 then f else f.record .contextsDiscarded (some w) none (BitVec.ofNat 32 (s.openOf w)) 2
    (∀ i, (s.ctx i).isOpen = true → (s.ctx i).inWindow w = true → t.ctx i = .free) ∧
    (∀ i, (s.ctx i).isOpen = false ∨ (s.ctx i).inWindow w = false → (rest = [] ∨ ∃ j,
      (s.ctx j).isCommitting = true ∧ (s.ctx j).inWindow w = true) → t.ctx i = s.ctx i) ∧
    ((∃ i, (s.ctx i).isCommitting = true ∧ (s.ctx i).inWindow w = true) →
      t.win w = ⟨.draining .forced, x, ((s.win w).dropping sum).counters⟩ ∧ t.pa = { s.pa with drainTimer := none } ∧
      t.ae.commitList = s.ae.commitList ∧ t.evq = g.evq) ∧
    ((∀ i, (s.ctx i).isCommitting = true → (s.ctx i).inWindow w = false) → rest = [] → t.pa = ⟨[], none⟩ ∧
      (s.conflict p = none →
        t.win w = ⟨if p.enable then .opened else .disabled, p.fields, ⟨0, 0, 0, 0, 0, 0, 0⟩⟩ ∧
        t.evq = (g.record .programApplied (some w) none (if p.enable then 1 else 0) 3).evq) ∧
      ∀ cause v, s.conflict p = some (cause, v) → t.win w = ⟨.opened, x, ((s.win w).dropping sum).counters⟩ ∧
        t.evq = (g.record .programRejected (some w) none (BitVec.ofNat 32 v.val) cause).evq) := by
  intro w x t sum f g
  have ht' : t = (s.forceDrain w).finishDrain := State.drainExpiry_of_discard hhead hheld hs ht hd hdue hx
  obtain ⟨hctx, hwin, hpa, hlist, hevq, -, -, humv⟩ := State.forceDrain_of_discard hx
  have hholds := State.forceDrain_holds_iff hx
  have hmp : (s.forceDrain w).mp.timebase = s.mp.timebase := congrArg MP.timebase humv
  have hgmp : g.mp.timebase = s.mp.timebase := by
    simp only [g]; split <;> rfl
  have hfields := State.forceDrain_fields hx
  change (s.forceDrain w).evq = g.evq at hevq
  generalize s.forceDrain w = u at *
  have hstage : u.pa.stage = p :: rest := by rw [hpa, hs]
  have hwinw : u.win w = { (s.win w).dropping sum with state := .draining .forced } := (hwin w).trans (if_pos rfl)
  have hdraining : (u.win w).state.isDraining = true := by rw [hwinw]; rfl
  rw [ht']
  refine ⟨fun i ho hw => ?_, fun i hi hend => ?_, fun hc => ?_, fun hc hrest => ?_⟩
  · exact u.finishDrain_keeps_free i (by rw [hctx, if_pos ⟨ho, hw⟩])
  · have hsame : u.ctx i = s.ctx i := by
      rw [hctx, if_neg]
      rintro ⟨ho, hw⟩
      exact hi.elim (fun hi => Bool.false_ne_true (hi.symm.trans ho)) (fun hi => Bool.false_ne_true (hi.symm.trans hw))
    have hae : u.finishDrain.ae = u.ae := by
      by_cases hh : u.holdsContexts w = true
      · rw [State.finishDrain_of_not_ends (State.drainEnds_of_holds fun q r hq => ?_)]
        obtain ⟨rfl, -⟩ := List.cons.inj (hstage.symm.trans hq)
        exact hh
      · rcases hend with rfl | hj
        · exact (State.finishDrain_of_last_ae hstage hdraining (by simpa using hh)).1
        · exact absurd (hholds.2 hj) hh
    rw [State.ctx_of_pool (congrArg AE.pool hae), hsame]
  · have hends : u.drainEnds = false := State.drainEnds_of_holds fun q r hq => by
      obtain ⟨rfl, -⟩ := List.cons.inj (hstage.symm.trans hq)
      exact hholds.2 hc
    rw [State.finishDrain_of_not_ends hends]
    exact ⟨hwinw, hpa, hlist, hevq⟩
  · subst hrest
    have hempty : u.holdsContexts w = false := by
      rw [← Bool.not_eq_true, hholds]
      rintro ⟨i, hi, hw⟩
      rw [hc i hi] at hw
      cases hw
    have hroute : (u.win w).state.route = 3 := by rw [hwinw]; rfl
    have hconflict : u.conflict p = s.conflict p := by
      refine State.conflict_of_fields (fun v => ?_) hfields p
      rw [hwin]
      split
      · rename_i hv
        rw [← hv, Window.decodes_of_isDraining (x := s.win w) (by rw [hd]; rfl)]
        rfl
      · rfl
    refine ⟨(State.finishDrain_of_last_ae hstage hdraining hempty).2, fun hnone => ?_, fun cause v hsome => ?_⟩
    · obtain ⟨hw, -, -, hq⟩ := State.finishDrain_applies hstage hdraining hempty (hconflict.trans hnone)
      rw [hroute] at hq
      exact ⟨hw, hq.trans (State.record_evq_congr hevq (hmp.trans hgmp.symm) ..)⟩
    · obtain ⟨hw, -, -, hq⟩ := State.finishDrain_rejects hstage hdraining hempty (hconflict.trans hsome)
      refine ⟨hw.trans ?_, hq.trans (State.record_evq_congr hevq (hmp.trans hgmp.symm) ..)⟩
      rw [hwinw]
      rfl

/-- The drain timer expires on a window whose contexts all wait for their commits: the sub-state alone changes (R145). -/
theorem State.drainExpiry_of_none_open {s : State} {p : Program} {rest : List Program} {tm : Timer} (hhead : HeadWaits s)
    (hs : s.pa.stage = p :: rest) (ht : s.pa.drainTimer = some tm) (hd : (s.win p.window).state = .draining .normal)
    (hdue : tm.limit.toNat ≤ (s.mp.timebase - tm.start).toNat) (hholds : s.holdsContexts p.window = true)
    (hopen : s.openOf p.window = 0) :
    s.drainExpiry = (s.drainForced p.window).setWinState p.window (.draining .forced) := by
  have hforce : s.forceDrain p.window = (s.drainForced p.window).setWinState p.window (.draining .forced) := by
    rw [State.forceDrain, State.forceContexts_of_none (s := s.drainForced p.window) hopen]
  rw [State.drainExpiry_of_due hs ht hd hdue, hforce]
  refine State.settle_of_still (hhead.of_fields rfl (fun _ _ => rfl) (fun v => State.fields_setWinState ..) rfl) ?_
    (Nat.le_of_eq rfl)
  refine State.drainEnds_of_holds fun q r hq => ?_
  obtain ⟨rfl, -⟩ := List.cons.inj (hs.symm.trans hq)
  exact hholds

/-- The drain timer expires under FLUSH_PARTIAL, behind a waiting record: the OPEN contexts join the Commit List, and the
drain goes on (R60, R145). -/
theorem State.drainExpiry_of_flush {s : State} {p : Program} {rest : List Program} {tm : Timer} (hhead : HeadWaits s)
    (hne : s.ae.commitList ≠ []) (hs : s.pa.stage = p :: rest) (ht : s.pa.drainTimer = some tm)
    (hd : (s.win p.window).state = .draining .normal) (hdue : tm.limit.toNat ≤ (s.mp.timebase - tm.start).toNat)
    (hx : (s.win p.window).fields.idleAction = .flushPartial) (hopen : 0 < s.openOf p.window)
    (hw : s.Unwatched p.window) :
    s.drainExpiry = ((s.drainForced p.window).completeAll (s.openInOrder p.window) true false).setWinState p.window
      (.draining .forced) := by
  set u := s.drainForced p.window with hu
  have hforce : s.forceDrain p.window =
      (u.completeAll (s.openInOrder p.window) true false).setWinState p.window (.draining .forced) := by
    have hx' : (u.win p.window).fields.idleAction = .flushPartial := hx
    rw [State.forceDrain, State.forceContexts, hx']
    rfl
  have hmem (i : Fin 64) := s.mem_openInOrder_iff p.window i
  obtain ⟨heq, -⟩ := u.completeAll_of_unwatched hw true false _ (s.nodup_openInOrder p.window)
    fun i hi => (hmem i).1 hi
  have hcommitting (i : Fin 64) := u.ctx_completeAll_committing (s.openInOrder p.window) true false (i := i)
  have hctx := u.completeAll_serves hw true false _ (s.nodup_openInOrder p.window) fun i hi => (hmem i).1 hi
  have hlen := s.length_openInOrder p.window
  rw [State.drainExpiry_of_due hs ht hd hdue, hforce]
  generalize s.openInOrder p.window = l at *
  generalize u.completeAll l true false = c at *
  have hlist : c.ae.commitList = s.ae.commitList ++ l := by rw [heq]; rfl
  have hct : c.ct = s.ct := by rw [heq]; rfl
  have hpa : c.pa = { s.pa with drainTimer := none } := by rw [heq]; rfl
  have hwin (v : Fin 16) : c.win v = s.win v := by rw [heq]; rfl
  refine State.settle_of_still (hhead.of_behind hne hlist hcommitting (fun v => ?_) hct) ?_ (Nat.le_of_eq ?_)
  · rw [State.fields_setWinState, hwin v]
  · refine State.drainEnds_of_holds fun q r hq => ?_
    obtain ⟨rfl, -⟩ := List.cons.inj (hs.symm.trans ((congrArg PA.stage hpa).symm.trans hq))
    obtain ⟨i, hi⟩ := List.exists_mem_of_length_pos (hlen.symm ▸ hopen)
    obtain ⟨a, ha, haw⟩ := (hmem i).1 hi
    refine (State.holdsContexts_iff _ _).2 ⟨i, (((hctx i).2 _).trans ?_)⟩
    simp [show u.ctx i = .opened a from ha, haw, Context.inWindow, Context.acc?]
  · exact State.freeCount_congr fun i => (hctx i).1

/-! ### The last context of a DRAINING window leaves -/

section
variable {s u : State} {p : Program} {sub : DrainSub} {i : Fin 64}

/-- The drain ends when the window's only context goes: what the apply reads is as before (R144, R146). -/
theorem State.drained_of_last (hs : s.pa.stage = [p]) (hd : (s.win p.window).state = .draining sub)
    (honly : ∀ k, k ≠ i → (s.ctx k).inWindow p.window = false) (hshape : u.shape = s.shape) (hpa : u.pa = s.pa)
    (hi : u.ctx i = .free) (hother : ∀ k, k ≠ i → u.ctx k = s.ctx k) :
    u.pa.stage = [p] ∧ (u.win p.window).state.isDraining = true ∧ u.holdsContexts p.window = false ∧
    u.conflict p = s.conflict p ∧ (u.win p.window).state.route = (if sub = .forced then 3 else 2) ∧
    ∀ k, u.resetByApply p k = ((s.win p.window).fields.slots.has k || (p.enable && p.fields.slots.has k)) := by
  have hstate : (u.win p.window).state = .draining sub :=
    (congrArg Prod.snd (congrFun hshape p.window)).trans hd
  refine ⟨by rw [hpa, hs], by rw [hstate]; rfl, ?_,
    State.conflict_of_fields (State.decodes_of_shape hshape) (State.fields_of_shape hshape) p, ?_, fun k => ?_⟩
  · rw [State.holdsContexts_false_iff]
    intro k
    by_cases hk : k = i
    · rw [hk, hi]; rfl
    · rw [hother k hk, honly k hk]
  · rw [hstate]
    cases sub <;> rfl
  · have hdecodes : (u.win p.window).decodes = true := Window.decodes_of_isDraining (by rw [hstate]; rfl)
    rw [State.resetByApply, hdecodes, Bool.true_and, State.fields_of_shape hshape]

end

/-! ### The grant of a commit -/

/-- What a grant writes beside the pool and the counters, for a record that no FLUSH marked (R103, R104). -/
theorem State.grantCommit_writes (s : State) (i : Fin 64) {c : Completed} (hf : c.flushMark = false) :
    let index := (s.win c.acc.window).fields.slotBase.toNat + c.acc.slot
    let seq := (s.slotAt index).seq + 1
    let overrun := (s.slotAt index).unread
    (∀ k, (s.grantCommit i c).slotAt k = if index = k ∧ index < 1024 then ⟨seq, true⟩ else s.slotAt k) ∧
    (s.grantCommit i c).eg = { s.eg with queue := s.eg.queue ++ [c.entry seq index overrun] } ∧
    (s.grantCommit i c).evq = (if overrun then
      s.record .overrunReplaced (some c.acc.window) (some c.acc.slot) (seq.setWidth 32) 0 else s).evq := by
  intro index seq overrun
  have hleave (t : State) (w : Fin 16) : t.flushLeave w c.flushMark true = t := by simp [State.flushLeave, hf]
  have hslot (k : Nat) := s.slotAt_setSlot index k ⟨seq, true⟩
  simp only [← hslot]
  cases ho : overrun with
  | true =>
    have ho' : (s.slotAt (s.slotIndex c.acc.window c.acc.slot)).unread = true := ho
    simp only [State.grantCommit, hleave, ho', if_true]
    exact ⟨fun k => rfl, rfl, rfl⟩
  | false =>
    have ho' : (s.slotAt (s.slotIndex c.acc.window c.acc.slot)).unread = false := ho
    simp only [State.grantCommit, hleave, ho', Bool.false_eq_true, if_false]
    exact ⟨fun k => rfl, rfl, rfl⟩

/-- The commit candidate is the head of the list unless KEEP discards it, and a grant follows when a position is free
(R120 to R123). -/
theorem State.commitEntry_of_head {s : State} {i : Fin 64} {rest : List (Fin 64)} {c : Completed}
    (hl : s.ae.commitList = i :: rest) (hc : s.ctx i = .committing c) (hk : s.keepHit c = false)
    (hq : s.eg.queue.length < 16) (hu : c.unreachable = false) :
    s.commitEntry = State.settle s (s.grantCommit i c) := by
  have hposition : s.hasPosition = true := decide_eq_true hq
  have hcandidate : s.commitCandidate = some (i, c) := by simp [State.commitCandidate, hl, hc, hk]
  simp [State.commitEntry, hcandidate, hposition, hu]

/-- Settles O39: the expiry of the drain timer, case by case, and the two other events that end a drain. -/
theorem drainIsForcedAndEnds : Obligations.DrainIsForcedAndEnds := by
  unfold Obligations.DrainIsForcedAndEnds
  refine ⟨?expiry, ?last⟩
  case expiry =>
    intro s p rest tm hr hhead hs ht hd w x sum dropping f g
    have hexec : exec .drainTimerExpiry s = .next s.drainExpiry := by
      show Host.Outcome.next (s.active State.drainExpiry) = _
      rw [State.active_running hr]
    rw [hexec]
    refine ⟨fun hdue => by rw [State.drainExpiry_of_not_due hs ht hdue], fun hdue => ⟨fun hc hopen => ?_,
      fun hx hheld => ⟨_, rfl, State.drainExpiry_discard_outcome hhead hheld hs ht hd hdue hx⟩,
      fun hx hopen hne hw => ?_⟩⟩
    · obtain ⟨i, -, hi⟩ := hc
      rw [State.drainExpiry_of_none_open hhead hs ht hd hdue ((State.holdsContexts_iff s w).2 ⟨i, hi⟩) hopen]
      rfl
    · have hmem := s.mem_openInOrder_iff w
      obtain ⟨heq, hother, hself⟩ := (s.drainForced w).completeAll_of_unwatched hw true false _ (s.nodup_openInOrder w)
        fun i hi => (hmem i).1 hi
      rw [State.drainExpiry_of_flush hhead hne hs ht hd hdue hx hopen hw]
      refine ⟨_, s.openInOrder w, rfl, ?_, s.nodup_openInOrder w, hmem, s.sorted_openInOrder w, hother,
        fun i a ha haw => hself i ((hmem i).2 ⟨a, ha, haw⟩) a ha⟩
      generalize (s.drainForced w).completeAll (s.openInOrder w) true false = c at heq ⊢
      rw [State.setWinState_ae]
      generalize c.ae.pool = pool at heq ⊢
      subst heq
      rfl
  case last =>
    intro s p sub i hr hheld hs hd hi honly w x reset route applied
    refine ⟨?idle, ?commit⟩
    case idle =>
      intro a ha hone hhead hx hlimit hdue g
      have haw : a.window = w := by simpa [ha, Context.inWindow, Context.acc?] using hi
      have hdiscard : (s.win a.window).fields.idleAction = .discard := haw.symm ▸ hx
      set u := s.idleEnd i a with hu
      have hueq := State.idleEnd_of_discard hdiscard i
      have hexec : exec (.idleExpiry w a.slot) s = .next u.finishDrain := by
        show Host.Outcome.next (s.active (·.idleExpiry w a.slot)) = _
        have hduea : s.idleDue a = true := (s.idleDue_iff a).2 (haw.symm ▸ ⟨hlimit, hdue⟩)
        rw [State.active_running hr, ← haw, State.idleExpiry_of_due hone ha hduea,
          State.settle_of_noHeld _ (hhead.idleDiscard ha hdiscard) (by rwa [hueq])]
      have hctx (k : Fin 64) : u.ctx k = if i = k then .free else s.ctx k := by
        rw [hu, hueq, State.record_ctx, State.count_ctx, State.ctx_setCtx]
      obtain ⟨hstage, hdrain, hempty, hconf, hroute, hreset⟩ := State.drained_of_last (u := u) hs hd honly
        (by simp [hu, hueq]) (by rw [hu, hueq]; rfl) (by rw [hctx, if_pos rfl]) (fun k hk => by rw [hctx, if_neg (Ne.symm hk)])
      obtain ⟨hae, hpa⟩ := State.finishDrain_of_last_ae hstage hdrain hempty
      have hfctx : u.finishDrain.ctx = u.ctx := State.ctx_of_pool (congrArg AE.pool hae)
      obtain ⟨hevq, htime, hsct, hseg⟩ :
          u.evq = g.evq ∧ u.mp.timebase = g.mp.timebase ∧ u.ct = s.ct ∧ u.eg = s.eg := by
        rw [hu, hueq, haw]; exact ⟨rfl, rfl, rfl, rfl⟩
      refine ⟨_, hexec, by rw [hfctx, hctx, if_pos rfl], fun k hk => by rw [hfctx, hctx, if_neg (Ne.symm hk)], hpa,
        by rw [hae, hu, hueq]; rfl, fun hnone => ?_, fun cause v hsome => ?_⟩
      · obtain ⟨hw, hct, heg, hq⟩ := State.finishDrain_applies hstage hdrain hempty (hconf.trans hnone)
        rw [hroute] at hq
        refine ⟨hw, fun k hk => ?_, ?_, hq.trans (State.record_evq_congr hevq htime ..)⟩
        · rw [hct k hk, hreset, State.slotAt, hsct]; rfl
        · rw [heg, hseg, show u.resetByApply p = reset from funext hreset]
      · obtain ⟨hw, hct, heg, hq⟩ := State.finishDrain_rejects hstage hdrain hempty (hconf.trans hsome)
        refine ⟨hct.trans hsct, heg.trans hseg, hw.trans ?_, hq.trans (State.record_evq_congr hevq htime ..)⟩
        rw [hu, hueq, State.record_win, State.win_count, haw, if_pos rfl]
        rfl
    case commit =>
      intro c hc hl hq hu hf hconflict idx overran hidx hover g
      have hcw : c.acc.window = w := by simpa [hc, Context.inWindow, Context.acc?] using hi
      have hkeep : s.keepHit c = false := by
        rw [State.keepHit_eq_false_iff, hcw]
        exact hover
      set u := s.grantCommit i c with hudef
      obtain ⟨hpool, htail⟩ := s.grantCommit_ae i c
      obtain ⟨hslot, heg, hevq⟩ := s.grantCommit_writes i hf
      rw [hcw] at hslot heg hevq
      have hctx := State.ctx_of_set hpool
      have hpa : u.pa = s.pa := by simp [hudef]
      have hexec : exec .commitEntry s = .next u.finishDrain := by
        show Host.Outcome.next (s.active State.commitEntry) = _
        rw [State.active_running hr, State.commitEntry_of_head hl hc hkeep hq hu,
          State.settle_of_noHeld _ (.of_nil (by rw [htail, hl]; rfl)) (fun h hh => hheld h (by simpa using hh))]
      obtain ⟨hstage, hdrain, hempty, hconf, hroute, hreset⟩ := State.drained_of_last (u := u) hs hd honly (by simp [hudef])
        hpa (by rw [hctx, if_pos rfl]) (fun k hk => by rw [hctx, if_neg (Ne.symm hk)])
      obtain ⟨hae, hpa'⟩ := State.finishDrain_of_last_ae hstage hdrain hempty
      obtain ⟨hw, hct, heg', hq'⟩ := State.finishDrain_applies hstage hdrain hempty (hconf.trans hconflict)
      have hfctx : u.finishDrain.ctx = u.ctx := State.ctx_of_pool (congrArg AE.pool hae)
      refine ⟨_, c.entry ((s.slotAt idx).seq + 1) idx overran, hexec, ?_, ?_, fun k hk => ?_, hpa', hw, fun k hk hne => ?_,
        ?_, ?_, rfl, rfl, rfl, ?_⟩
      · rw [hfctx, hctx, if_pos rfl]
      · rw [hae, htail, hl]; rfl
      · rw [hfctx, hctx, if_neg (Ne.symm hk)]
      · have hsame : u.slotAt k = s.slotAt k := (hslot k).trans (if_neg fun h => hne h.1.symm)
        rw [hct k hk, hreset, hsame]
      · have hwritten : u.slotAt idx = ⟨(s.slotAt idx).seq + 1, true⟩ := (hslot idx).trans (if_pos ⟨rfl, hidx⟩)
        rw [hct idx hidx, hreset, hwritten]
      · rw [heg', heg, show u.resetByApply p = reset from funext hreset]
      · rw [hroute] at hq'
        refine hq'.trans (State.record_evq_congr (s := g) hevq ?_ ..)
        have htime : u.mp = s.mp := by simp [hudef]
        rw [htime]
        simp only [g]
        split <;> rfl

end Sys2Proof.Machine

/-! PROOF. STAGE under RESTART (R61, R148): the cut-over of the window, the KEEP run behind it, and the apply. -/

namespace Sys2Proof.Machine

/-! ### The flush counts of a discard (R59, R61) -/

theorem State.flushOf_flushDiscard (s : State) (w : Fin 16) (n : Nat) : (s.flushDiscard w n).flushOf w =
    if 0 < n ∧ 0 < (s.flushOf w).outstanding then ⟨(s.flushOf w).outstanding - n, (s.flushOf w).entered⟩
    else s.flushOf w := by
  have hset (x : FlushCounts) : (s.setFlush w x).flushOf w = x := (s.flushOf_setFlush w w x).trans (if_pos rfl)
  unfold State.flushDiscard
  by_cases hc : 0 < n ∧ 0 < (s.flushOf w).outstanding
  · simp only [if_pos hc]
    split
    · exact hset _
    · exact hset _
  · simp only [if_neg hc]

theorem State.evq_flushDiscard (s : State) (w : Fin 16) (n : Nat) : (s.flushDiscard w n).evq =
    (if 0 < n ∧ 0 < (s.flushOf w).outstanding ∧ (s.flushOf w).outstanding ≤ n then
      s.record .flushDone (some w) none (BitVec.ofNat 32 (s.flushOf w).entered) 0 else s).evq := by
  unfold State.flushDiscard
  by_cases hc : 0 < n ∧ 0 < (s.flushOf w).outstanding
  · by_cases hn : (s.flushOf w).outstanding ≤ n
    · simp only [hc, hn, and_self, if_true, Nat.sub_eq_zero_of_le hn]
      rfl
    · have hne : (s.flushOf w).outstanding - n ≠ 0 := by omega
      simp only [hc, hn, and_self, and_false, if_true, if_false, hne]
      rfl
  · have hn : ¬(0 < n ∧ 0 < (s.flushOf w).outstanding ∧ (s.flushOf w).outstanding ≤ n) := fun h => hc ⟨h.1, h.2.1⟩
    simp only [if_neg hc, if_neg hn]

/-! ### The cut-over before its KEEP run -/

section
variable (s : State) (w : Fin 16)

theorem State.cleared_flushOf : (s.cleared w).flushOf = s.flushOf := by
  funext v
  simp [State.cleared, State.flushOf]

@[simp] theorem State.cut_frame :
    (s.cut w).ct = s.ct ∧ (s.cut w).eg = s.eg ∧ (s.cut w).pa = s.pa ∧ (s.cut w).mp = s.mp ∧ (s.cut w).ig = s.ig ∧
    (s.cut w).shape = s.shape ∧
    (s.cut w).ae.commitList = s.ae.commitList.filter (fun i => !(s.ctx i).inWindow w) := by
  simp [State.cut, State.cleared]

/-- The window's contexts drop what they hold, and no other window counts anything (R61). -/
theorem State.win_cut (v : Fin 16) :
    (s.cut w).win v = if w = v then (s.win w).dropping (s.heldCount w) else s.win v := by
  have hwt (t : State) (n : Nat) : (t.flushDiscard w n).win = t.win := by funext y; simp [State.win]
  rw [State.cut, hwt, State.record_win, State.cleared,
    State.win_foldl_discard _ w v (List.nodup_finRange 64), State.heldCount_eq]
  rfl

/-- The marked contexts of the window are counted off its flush together (R59, R61). -/
theorem State.flushOf_cut :
    let f := s.flushOf w
    let marks := s.ae.pool.toList.countP (fun c => c.marked w)
    (s.cut w).flushOf w = if 0 < marks ∧ 0 < f.outstanding then ⟨f.outstanding - marks, f.entered⟩ else f := by
  intro f marks
  rw [State.cut, State.flushOf_flushDiscard, State.record_flushOf, State.cleared_flushOf]

end

/-- A flush that the removals end is done (R59, R61); the events depend on the pool, the queue and the time. -/
theorem State.evq_cut {s t : State} (w : Fin 16) (ha : t.ae = s.ae) (he : t.evq = s.evq)
    (hm : t.mp.timebase = s.mp.timebase) :
    let f := s.flushOf w
    let marks := s.ae.pool.toList.countP (fun x => x.marked w)
    let u := s.record .contextsDiscarded (some w) none
      (BitVec.ofNat 32 (s.ae.pool.toList.countP (fun x => x.inWindow w))) 3
    (t.cut w).evq = (if 0 < marks ∧ 0 < f.outstanding ∧ f.outstanding ≤ marks then
      u.record .flushDone (some w) none (BitVec.ofNat 32 f.entered) 0 else u).evq := by
  intro f marks u
  have hevq : (t.cleared w).evq = s.evq := by simp [State.cleared, he]
  have htime : (t.cleared w).mp.timebase = s.mp.timebase := by simp [State.cleared, hm]
  have hflush : (t.cleared w).flushOf w = f := by rw [State.cleared_flushOf, State.flushOf, ha]; rfl
  have hrecord := State.record_evq_congr hevq htime .contextsDiscarded (some w) none
    (BitVec.ofNat 32 (s.ae.pool.toList.countP (fun c => c.inWindow w))) 3
  rw [State.cut, State.evq_flushDiscard, State.record_flushOf, hflush, ha]
  generalize t.cleared w = y at hrecord htime ⊢
  split
  · exact State.record_evq_congr hrecord htime ..
  · exact hrecord

/-! ### The KEEP run -/

theorem State.keepRun_keeps_open (s : State) (i : Fin 64) (h : (s.ctx i).isOpen = true) : s.keepRun.ctx i = s.ctx i := by
  refine State.keepRun_induct (fun t => t.ctx i = s.ctx i) (fun t j rest c _ hc _ ht => ?_) s rfl
  have hp : ((t.setCommitList rest).keepDiscard j c).ae.pool = t.ae.pool.set j.val .free := by
    simp [State.keepDiscard]
  rw [State.ctx_of_set hp, if_neg, ht]
  rintro rfl
  rw [← ht, hc] at h
  cases h

/-- A KEEP run puts nothing on the Commit List. -/
theorem State.keepRun_keeps_off (s : State) (i : Fin 64) (h : i ∉ s.ae.commitList) : i ∉ s.keepRun.ae.commitList := by
  refine State.keepRun_induct (fun t => i ∉ t.ae.commitList) (fun t j rest c hl _ _ ht hi => ht ?_) s h
  have hrest : ((t.setCommitList rest).keepDiscard j c).ae.commitList = rest := by simp [State.keepDiscard]
  rw [hl]
  exact List.mem_cons_of_mem j (hrest ▸ hi)

/-- A KEEP run of one discard: the next head waits (R105). -/
theorem State.keepRun_of_hit {s : State} {i : Fin 64} {rest : List (Fin 64)} {c : Completed}
    (hl : s.ae.commitList = i :: rest) (hc : s.ctx i = .committing c) (hk : s.keepHit c = true)
    (hw : HeadWaits ((s.setCommitList rest).keepDiscard i c)) :
    s.keepRun = (s.setCommitList rest).keepDiscard i c := by
  have htest : s.keepTest = (s.setCommitList rest).keepDiscard i c := by simp [State.keepTest, hl, hc, hk]
  rw [State.keepRun, hl, List.length_cons, keepTests, htest, keepTests_of_headWaits _ hw]

/-- A KEEP discard of a record that no FLUSH marked (R105). -/
theorem State.keepDiscard_of_unmarked (s : State) (i : Fin 64) {c : Completed} (hf : c.flushMark = false) :
    s.keepDiscard i c = (((s.count c.acc.window (fun x => { x with overruns := x.overruns + 1 })).drop c.acc.window
      c.acc.count).setCtx i .free).record .overrunKept (some c.acc.window) (some c.acc.slot)
        ((s.slotAt ((s.win c.acc.window).fields.slotBase.toNat + c.acc.slot)).seq.setWidth 32) 0 := by
  simp only [State.keepDiscard, State.flushLeave, hf, Bool.false_and, Bool.false_eq_true, if_false]
  rfl

/-- What the statement asks of a list's head: a COMMITTING context that KEEP does not discard (R105). -/
def State.FirstWaits (s : State) (l : List (Fin 64)) : Prop :=
  ∀ i rest, l = i :: rest → ∃ c, s.ctx i = .committing c ∧ ((s.win c.acc.window).fields.overrun = .replace ∨
    (s.slotAt ((s.win c.acc.window).fields.slotBase.toNat + c.acc.slot)).unread = false)

/-- A list whose first waits is a Commit List whose head waits, in a state that keeps that context, the programs and the
Slot Status Memory. -/
theorem State.FirstWaits.headWaits {s t : State} (h : s.FirstWaits t.ae.commitList)
    (hc : ∀ i ∈ t.ae.commitList.head?, (s.ctx i).isCommitting = true → t.ctx i = s.ctx i)
    (hf : ∀ v, (t.win v).fields = (s.win v).fields) (ht : t.ct = s.ct) : HeadWaits t := by
  cases hl : t.ae.commitList with
  | nil => exact .of_nil hl
  | cons i rest =>
    obtain ⟨c, hci, hk⟩ := h i rest hl
    refine .of_head hl ((hc i (by simp [hl]) (by rw [hci]; rfl)).trans hci) ?_
    rw [State.keepHit_congr hf ht, State.keepHit_eq_false_iff]
    exact hk

section
variable {s : State} {w : Fin 16}

/-- The contexts that stay on the Commit List are those of other windows (R61). -/
theorem State.cut_keeps_listed {i : Fin 64} (hi : i ∈ s.ae.commitList.filter (fun i => !(s.ctx i).inWindow w)) :
    (s.ctx i).inWindow w = false ∧ (s.cut w).ctx i = s.ctx i := by
  have hw : (s.ctx i).inWindow w = false := by simpa using (List.mem_filter.1 hi).2
  exact ⟨hw, by rw [State.ctx_cut, hw]; rfl⟩

/-- A new head that waits ends the cut-over (R148). -/
theorem State.cutOver_of_waits (h : s.FirstWaits (s.ae.commitList.filter (fun i => !(s.ctx i).inWindow w))) :
    s.cutOver w = s.cut w := by
  have hlist : (s.cut w).ae.commitList = s.ae.commitList.filter (fun i => !(s.ctx i).inWindow w) := by simp
  rw [State.cutOver_eq, State.keepRun_of_headWaits]
  refine State.FirstWaits.headWaits (s := s) (by rwa [hlist]) (fun i hi _ => ?_) (State.fields_of_shape (by simp)) (by simp)
  rw [hlist] at hi
  exact (State.cut_keeps_listed (List.mem_of_mem_head? hi)).2

/-- A new head that KEEP discards is discarded by the cut-over, and the one behind it waits (R105, R148). -/
theorem State.cutOver_of_hit {i : Fin 64} {rest : List (Fin 64)} {c : Completed}
    (hl : s.ae.commitList.filter (fun i => !(s.ctx i).inWindow w) = i :: rest) (hc : s.ctx i = .committing c)
    (hk : s.keepHit c = true) (hw : s.FirstWaits rest) :
    s.cutOver w = ((s.cut w).setCommitList rest).keepDiscard i c := by
  have hkeep : (s.cut w).keepHit = s.keepHit := State.keepHit_congr (State.fields_of_shape (by simp)) (by simp)
  have hlisted (j : Fin 64) (hj : j ∈ i :: rest) := State.cut_keeps_listed (s := s) (w := w) (hl ▸ hj)
  set t := ((s.cut w).setCommitList rest).keepDiscard i c with ht
  have hrest : t.ae.commitList = rest := by simp [ht, State.keepDiscard]
  have hpool : t.ae.pool = (s.cut w).ae.pool.set i.val .free := by simp [ht, State.keepDiscard]
  have hwaits : HeadWaits t := by
    refine State.FirstWaits.headWaits (s := s) (by rwa [hrest]) (fun j hj _ => ?_)
      (State.fields_of_shape (by simp [ht])) (by simp [ht])
    rw [hrest] at hj
    rw [State.ctx_of_set hpool, if_neg, (hlisted j (List.mem_cons_of_mem i (List.mem_of_mem_head? hj))).2]
    rintro rfl
    obtain ⟨tail, htail⟩ := List.head?_eq_some_iff.1 hj
    obtain ⟨d, hd, hwait⟩ := hw i tail htail
    cases hd.symm.trans hc
    rw [(State.keepHit_eq_false_iff s c).2 hwait] at hk
    cases hk
  rw [State.cutOver_eq]
  exact State.keepRun_of_hit (by rw [← hl]; simp) ((hlisted i (by simp)).2.trans hc) (by rw [hkeep, hk]) hwaits

end

/-! ### The command -/

/-- The part when STAGE processes its program as the head of the queue (R139, R172). -/
def State.staging (s : State) (mdi : List Bool) (p : Program) : State := (s.receive 0x10 mdi).floatMdo.setStage [p]

section
variable {mdi : List Bool} {s : State} {a : List Byte} {p : Program}

theorem State.staging_frame (s : State) (mdi : List Bool) (p : Program) : (s.staging mdi p).ae = s.ae ∧
    (s.staging mdi p).wt = s.wt ∧ (s.staging mdi p).ct = s.ct ∧ (s.staging mdi p).eg = s.eg ∧
    (s.staging mdi p).evq = s.evq ∧ (s.staging mdi p).mp.timebase = s.mp.timebase ∧ (s.staging mdi p).ig = s.ig :=
  ⟨rfl, rfl, rfl, rfl, rfl, rfl, rfl⟩

/-- STAGE to an empty Stage Queue, for an OPEN window with contexts under RESTART, as one next state (R61, R148). -/
theorem exec_stage_cutOver (hl : s.Listening) (hx : Executes 0x10 mdi a) (ha : stagedProgram a = some p)
    (hs : s.pa.stage = []) (hn : s.NoHeld) (ho : (s.win p.window).state = .opened)
    (hh : s.holdsContexts p.window = true) (hr : (s.win p.window).fields.switch = .restart) :
    exec (.stage mdi) s =
      .next (((((s.staging mdi p).cutOver p.window).applyHead p [] 4).setStage []).store ⟨.ok, [1]⟩) := by
  set u := s.staging mdi p with hu
  have hdecodes : (u.win p.window).decodes = true := (Window.decodes_iff _).2 (fun h => by cases ho.symm.trans h)
  have hholds : u.holdsContexts p.window = true := hh
  have hrestart : (u.win p.window).fields.switch = .restart := hr
  have hp : processHeads [p] (s.receive 0x10 mdi).floatMdo = ((u.cutOver p.window).applyHead p [] 4).setStage [] := by
    rw [hu, State.staging] at hdecodes hholds hrestart
    simp only [processHeads, hdecodes, hholds, hrestart, Bool.not_true, Bool.or_self, Bool.false_eq_true, if_false]
    rfl
  have hi : (((u.cutOver p.window).applyHead p [] 4).setStage []).NoHeld := fun h hh =>
    hn h (show u.ig.intake = .holding h by simpa using hh)
  have hprogram : (s.receive 0x10 mdi).floatMdo.stageProgram p = ((u.cutOver p.window).applyHead p [] 4).setStage [] := by
    rw [State.stageProgram, show (s.receive 0x10 mdi).floatMdo.pa.stage = [] from hs]
    exact (congrArg State.release hp).trans (State.release_of_noHeld hi)
  have he : stageEffect a (s.receive 0x10 mdi).floatMdo =
      (((u.cutOver p.window).applyHead p [] 4).setStage [], ⟨.ok, [1]⟩) := by
    simp [← hprogram, stageEffect, ha, hs, Config.stageQueue, Reply.okay, leBytes]
  show Host.Outcome.next (s.selected (·.transact 0x10 mdi stageEffect)) = _
  rw [State.selected_listening hl, State.transact_run _ _ _ _ _ hx, he]

/-- The cut-over changes nothing that the comparison reads (R29). -/
theorem State.conflict_staging_cutOver (s : State) (mdi : List Bool) (p : Program) :
    ((s.staging mdi p).cutOver p.window).conflict p = s.conflict p := by
  have hshape : ((s.staging mdi p).cutOver p.window).shape = s.shape := by simp; rfl
  exact State.conflict_of_fields (State.decodes_of_shape hshape) (State.fields_of_shape hshape) p

end

/-- What the command leaves when the program is applied (R151). -/
theorem State.applyProgram_stored (s : State) (p : Program) (route : Nat) (r : Reply) :
    let t := ((s.applyProgram p [] route).setStage []).store r
    t.ae = s.ae ∧
    (∀ y, t.win y = if p.window = y then ⟨if p.enable then .opened else .disabled, p.fields, ⟨0, 0, 0, 0, 0, 0, 0⟩⟩
      else s.win y) ∧
    t.evq = (s.record .programApplied (some p.window) none (if p.enable then 1 else 0) route).evq :=
  ⟨rfl, s.win_applyProgram p [] route, rfl⟩

/-- What the command leaves when the program is rejected (R150). -/
theorem State.rejectProgram_stored (s : State) (p : Program) (cause : Nat) (v : Fin 16) (r : Reply) :
    let t := ((s.rejectProgram p [] cause v).setStage []).store r
    t.ae = s.ae ∧ t.ct = s.ct ∧ t.eg = s.eg ∧
    (∀ y, t.win y = if p.window = y then { s.win p.window with
      state := if (s.win p.window).state.isDraining then .opened else (s.win p.window).state } else s.win y) ∧
    t.evq = (s.record .programRejected (some p.window) none (BitVec.ofNat 32 v.val) cause).evq :=
  ⟨rfl, rfl, rfl, s.win_rejectProgram p [] cause v, rfl⟩

/-- Settles O25: the cut-over of the window, and its apply or rejection. -/
theorem stageCutsOver : Obligations.StageCutsOver := by
  unfold Obligations.StageCutsOver
  intro mdi s a p hl hx ha hs hn ho hh hr w others f marks ended u v route unreadAt waits
  have hexec := exec_stage_cutOver hl hx ha hs hn ho hh hr
  have hconflict := s.conflict_staging_cutOver mdi p
  obtain ⟨hae, hwt, hct, heg, hevq, htime, -⟩ := s.staging_frame mdi p
  generalize s.staging mdi p = t at *
  have hctx : t.ctx = s.ctx := State.ctx_of_pool (congrArg AE.pool hae)
  have hwin : t.win = s.win := by funext y; simp only [State.win, hwt]
  have hslot : t.slotAt = s.slotAt := by funext k; simp only [State.slotAt, hct]
  have hwaits (l : List (Fin 64)) (h : waits l) : t.FirstWaits l := by
    simp only [State.FirstWaits, hctx, hwin, hslot]
    exact h
  have hothers : t.ae.commitList.filter (fun i => !(t.ctx i).inWindow w) = others := by rw [hctx, hae]
  have hlist : (t.cut w).ae.commitList = others := by rw [← hothers]; simp
  have hcut (i : Fin 64) : (t.cut w).ctx i = if (s.ctx i).inWindow w = true then .free else s.ctx i := by
    rw [State.ctx_cut, hctx]
  have hcutwin (y : Fin 16) : (t.cut w).win y = if w = y then (s.win w).dropping (s.heldCount w) else s.win y := by
    rw [State.win_cut, hwin, State.heldCount_of_pool (congrArg AE.pool hae)]
  have hcutevq : (t.cut w).evq = v.evq := State.evq_cut w hae hevq htime
  have hcuttime : (t.cut w).mp.timebase = v.mp.timebase := by
    have hv : v.mp.timebase = s.mp.timebase := by simp only [v]; split <;> rfl
    simp [hv, htime]
  have hquiet (h : waits others) : t.cutOver w = t.cut w := State.cutOver_of_waits (by rw [hothers]; exact hwaits _ h)
  refine ⟨fun hnone => ?applied, fun cause x hsome hwait => ?rejected⟩
  case applied =>
    rw [State.applyHead_of_none (hconflict.trans hnone)] at hexec
    obtain ⟨hTae, hTwin, hTevq⟩ := (t.cutOver w).applyProgram_stored p 4 ⟨.ok, [1]⟩
    refine ⟨_, hexec, rfl, rfl, ?_⟩
    generalize (((t.cutOver p.window).applyProgram p [] 4).setStage []).store ⟨.ok, [1]⟩ = T at hTae hTwin hTevq ⊢
    have hTctx : T.ctx = (t.cutOver w).ctx := State.ctx_of_pool (congrArg AE.pool hTae)
    refine ⟨fun i hi => ⟨?_, ?_⟩, fun i hiopen hi => ?_, (hTwin w).trans (if_pos rfl), fun hwait => ?_, ?_⟩
    · rw [hTctx, State.cutOver_eq]
      exact State.keepRun_keeps_free _ i ((hcut i).trans (if_pos hi))
    · rw [hTae, State.cutOver_eq]
      refine State.keepRun_keeps_off _ i ?_
      rw [hlist]
      simp [others, hi]
    · have hsame : (t.cut w).ctx i = s.ctx i := (hcut i).trans (if_neg (by simp [hi]))
      rw [hTctx, State.cutOver_eq, State.keepRun_keeps_open _ i (by rwa [hsame]), hsame]
    · rw [hquiet hwait] at hTae hTctx hTevq
      refine ⟨by rw [hTae, hlist], hTevq.trans (State.record_evq_congr hcutevq hcuttime ..), fun i hi => ?_, ?_⟩
      · rw [hTctx, hcut, if_neg (by simp [hi])]
      · have hflush := t.flushOf_cut w
        simp only [State.flushOf, hae] at hflush
        rw [State.flushOf, hTae]
        exact hflush
    · intro i rest c hl hc hkeep hunread hmark hwait
      have hhit : t.keepHit c = true := by
        rw [State.keepHit_congr (fun y => by rw [hwin]) hct, ← Bool.not_eq_false, State.keepHit_eq_false_iff]
        rintro (h | h)
        · cases hkeep.symm.trans h
        · exact Bool.false_ne_true (h.symm.trans hunread)
      have hother : w ≠ c.acc.window := by
        have hmem : i ∈ others := by rw [hl]; exact List.mem_cons_self
        obtain ⟨hi, -⟩ := State.cut_keeps_listed hmem
        intro h
        simp [hc, Context.inWindow, Context.acc?, h] at hi
      have hcutOver := State.cutOver_of_hit (hothers.trans hl) (by rw [hctx, hc]) hhit (hwaits _ hwait)
      have hbehind : ((t.cut w).setCommitList rest).win c.acc.window = s.win c.acc.window :=
        (hcutwin _).trans (if_neg hother)
      have hstatus : ((t.cut w).setCommitList rest).slotAt = s.slotAt := by
        funext k
        simp [State.slotAt, hct]
      rw [State.keepDiscard_of_unmarked _ i hmark, hbehind, hstatus] at hcutOver
      rw [hcutOver] at hTae hTctx hTwin hTevq
      refine ⟨by rw [hTae]; rfl, by rw [hTctx]; exact (State.ctx_setCtx ..).trans (if_pos rfl), ?_, ?_⟩
      · rw [hTwin, if_neg hother, State.record_win, State.setCtx_win, State.drop, State.win_count, if_pos rfl,
          State.win_count, if_pos rfl, hbehind]
      · exact hTevq.trans (State.record_evq_congr (State.record_evq_congr hcutevq hcuttime ..) hcuttime ..)
  case rejected =>
    rw [State.applyHead_of_some (hconflict.trans hsome), hquiet hwait] at hexec
    obtain ⟨hTae, hTct, hTeg, hTwin, hTevq⟩ := (t.cut w).rejectProgram_stored p cause x ⟨.ok, [1]⟩
    refine ⟨_, hexec, rfl, rfl, ?_⟩
    generalize (((t.cut w).rejectProgram p [] cause x).setStage []).store ⟨.ok, [1]⟩ = T at hTae hTct hTeg hTwin hTevq ⊢
    have hTctx : T.ctx = (t.cut w).ctx := State.ctx_of_pool (congrArg AE.pool hTae)
    refine ⟨fun i hi => ?_, by rw [hTae, hlist], (hTwin w).trans ?_, fun y hy => (hTwin y).trans ?_, ?_, ?_,
      hTevq.trans (State.record_evq_congr hcutevq hcuttime ..)⟩
    · rw [hTctx, hcut, if_pos hi]
    · rw [if_pos rfl, hcutwin, if_pos rfl]
      have hopen : (s.win w).state = .opened := ho
      simp [Window.dropping, hopen, WState.isDraining]
    · rw [if_neg (Ne.symm hy), hcutwin, if_neg (Ne.symm hy)]
    · rw [hTct, ← hct]; simp
    · rw [hTeg, ← heg]; simp

end Sys2Proof.Machine

/-! PROOF. SET_CORRECTION (R79): the checks in order, and the entry it writes. -/

namespace Sys2Proof.Machine

section
variable {i c w f l : Byte}

/-- An argument that fails a check of R79. -/
theorem correctionArg_of_refused (tail : List Byte) (h : 7 < i.toNat ∨ 15 < w.toNat ∨ l.toNat < f.toNat) :
    correctionArg ([i, c, w, f, l] ++ tail) = none := by
  simp only [correctionArg, byteAt, List.cons_append, List.getD_cons_zero, List.getD_cons_succ]
  split_ifs
  · omega
  all_goals rfl

/-- An argument that passes the checks of R79 names an entry and its six fields. -/
theorem correctionArg_of_accepted (o : BitVec 32) (hi : i.toNat < 8) (hw : w.toNat < 16) (hfl : f.toNat ≤ l.toNat) :
    correctionArg ([i, c, w, f, l] ++ leBytes o.toNat 4) =
      some (⟨i.toNat, hi⟩, ⟨c.getLsbD 0, ⟨w.toNat, hw⟩, f, l, o, c.getLsbD 1⟩) := by
  have hoffset : BitVec.ofNat 32 (fieldAt ([i, c, w, f, l] ++ leBytes o.toNat 4) 5 4) = o := by
    have hfield : fieldAt ([i, c, w, f, l] ++ leBytes o.toNat 4) 5 4 = leNat (leBytes o.toNat 4) := rfl
    rw [hfield, leNat_leBytes 4 o.toNat (Nat.lt_of_lt_of_eq o.isLt rfl), BitVec.ofNat_toNat, BitVec.setWidth_eq]
  rw [correctionArg, hoffset]
  simp [byteAt, hi, hw, hfl]

end

/-- A SET_CORRECTION frame that executes, as one next state. -/
theorem exec_setCorrection {mdi : List Bool} {s : State} {a : List Byte} (hl : s.Listening)
    (hx : Executes 0x20 mdi a) : exec (.setCorrection mdi) s =
      .next ((setCorrectionEffect a (s.receive 0x20 mdi).floatMdo).1.store
        (setCorrectionEffect a (s.receive 0x20 mdi).floatMdo).2) := by
  show Host.Outcome.next (s.selected (·.transact 0x20 mdi setCorrectionEffect)) = _
  rw [State.selected_listening hl, State.transact_run _ _ _ _ _ hx]

/-- Settles O17, by what the argument names when a check of R79 fails and when all pass. -/
theorem setCorrectionWritesOneEntry : Obligations.SetCorrectionWritesOneEntry := by
  unfold Obligations.SetCorrectionWritesOneEntry
  intro mdi s i c w f l o hl hx
  refine ⟨fun hrefused => ?_, fun hi hw hfl => ?_⟩
  · rw [exec_setCorrection hl hx, setCorrectionEffect, correctionArg_of_refused _ hrefused]
    rfl
  · rw [exec_setCorrection hl hx, setCorrectionEffect, correctionArg_of_accepted o hi hw hfl]
    rfl

end Sys2Proof.Machine

/-! PROOF. The value and SAT of a record (R66, R69 to R72): the rounding shift by its defining inequality, and the two
clamps as one. -/

namespace Sys2Proof.Machine

/-! ### The rounding shift (R66) -/

theorem shiftedValue_zero (sum : Int) : shiftedValue sum 0 = sum := if_pos rfl

/-- The shifted value is the greatest integer that, shifted back, is at most the sum and half the divisor (R66). -/
theorem shiftedValue_bounds (sum : Int) {n : Nat} (hn : 1 ≤ n) :
    2 ^ n * shiftedValue sum n ≤ sum + 2 ^ (n - 1) ∧ sum + 2 ^ (n - 1) < 2 ^ n * (shiftedValue sum n + 1) := by
  have hpos : (0 : Int) < 2 ^ n := by positivity
  rw [shiftedValue, if_neg (by omega), mul_add, mul_one]
  exact ⟨Int.mul_ediv_self_le hpos.ne', Int.lt_mul_ediv_self_add hpos⟩

/-! ### The clamps (R70, R71) -/

theorem clampTo_eq_max_min {lo hi : Int} (h : lo ≤ hi) (v : Int) : clampTo lo hi v = max lo (min hi v) := by
  unfold clampTo
  split_ifs <;> omega

theorem clamp32_eq_max_min (v : Int) : clamp32 v = max (-(2 ^ 31)) (min (2 ^ 31 - 1) v) :=
  clampTo_eq_max_min (by norm_num) v

/-- A clamp after a wider one is that clamp (R70, R71). -/
theorem clampTo_clamp32 {lo hi : Int} (hlo : -(2 ^ 31) ≤ lo) (hle : lo ≤ hi) (hhi : hi ≤ 2 ^ 31 - 1) (v : Int) :
    clampTo lo hi (clamp32 v) = clampTo lo hi v := by
  rw [clamp32_eq_max_min, clampTo_eq_max_min hle, clampTo_eq_max_min hle]
  omega

/-- One of two nested clamps changes the values outside the narrower range (R72). -/
theorem clamp_changes_iff {lo hi : Int} (hlo : -(2 ^ 31) ≤ lo) (hle : lo ≤ hi) (hhi : hi ≤ 2 ^ 31 - 1) (v : Int) :
    clamp32 v ≠ v ∨ clampTo lo hi v ≠ clamp32 v ↔ v < lo ∨ hi < v := by
  rw [clamp32_eq_max_min, clampTo_eq_max_min hle]
  omega

theorem narrowRange_eq (f : SampleFormat) : narrowRange f =
    (if f = .s16 then -32768 else if f = .s32 then -(2 ^ 31) else 0,
      if f = .s16 then 32767 else if f = .u16 then 65535 else 2 ^ 31 - 1) := by
  cases f <;> rfl

/-- Every narrow range is a range of signed 32-bit values (R71). -/
theorem narrowRange_bounds (f : SampleFormat) : -(2 ^ 31) ≤ (narrowRange f).1 ∧
    (narrowRange f).1 ≤ (narrowRange f).2 ∧ (narrowRange f).2 ≤ 2 ^ 31 - 1 := by
  cases f <;> decide

theorem correctedValue_eq (entry : Option Correction) (v : Int) :
    correctedValue entry v = v - entry.elim 0 (fun e => e.offset.toInt) := by
  cases entry
  · exact (sub_zero v).symm
  · rfl

theorem clampedValue_of_wide {entry : Option Correction} (h : entry.elim false (fun e => e.narrow) = false)
    (f : SampleFormat) (v : Int) : clampedValue entry f v = clamp32 v := by
  cases entry
  · rfl
  · exact if_neg (Bool.eq_false_iff.1 h)

theorem clampedValue_of_narrow {entry : Option Correction} (h : entry.elim false (fun e => e.narrow) = true)
    (f : SampleFormat) (v : Int) : clampedValue entry f v = clampTo (narrowRange f).1 (narrowRange f).2 v := by
  obtain ⟨hlo, hle, hhi⟩ := narrowRange_bounds f
  cases entry
  · cases h
  · exact (if_pos h).trans (clampTo_clamp32 hlo hle hhi v)

/-- A record whose two clamps amount to one, to `lo` to `hi`: its value is in the range, and SAT says that it was not
before (R70 to R72). -/
theorem formResult_of_clamped {entry : Option Correction} {x : Fields} {a : Accum} {lo hi c : Int}
    (hlo : -(2 ^ 31) ≤ lo) (hle : lo ≤ hi) (hhi : hi ≤ 2 ^ 31 - 1)
    (hc : correctedValue entry (shiftedValue a.sum.toInt x.shift.toNat) = c)
    (hclamp : clampedValue entry x.format c = clampTo lo hi c) (isPartial : Bool) :
    (formResult entry x a isPartial).value.toInt = max lo (min hi c) ∧
    (formResult entry x a isPartial).flags = ⟨true, isPartial, decide (c < lo ∨ hi < c), false, 0⟩ := by
  have hsat : satFlag entry x.format c = decide (c < lo ∨ hi < c) := by
    rw [satFlag, hclamp, ← Bool.decide_or, decide_eq_decide]
    exact clamp_changes_iff hlo hle hhi c
  constructor
  · show (BitVec.ofInt 32 (clampedValue entry x.format (correctedValue entry _))).toInt = _
    rw [hc, hclamp, clampTo_eq_max_min hle]
    exact BitVec.toInt_ofInt_eq_self (by decide) (by omega) (by omega)
  · simp only [formResult, hc, hsat]

/-- Settles O21: the shift by its bounds, and the clamps as one, to 32 bits or to the narrow range. -/
theorem resultValue : Obligations.ResultValue := by
  unfold Obligations.ResultValue
  refine ⟨shiftedValue_zero, fun sum n => shiftedValue_bounds sum, ?_⟩
  intro entry x a isPartial r c lo hi
  have hc : correctedValue entry (shiftedValue a.sum.toInt x.shift.toNat) = c := correctedValue_eq ..
  have hrange : narrowRange x.format = (lo, hi) := narrowRange_eq x.format
  obtain ⟨hlo, hle, hhi⟩ := narrowRange_bounds x.format
  refine ⟨rfl, fun hwide => ?_, fun hnarrow => ?_⟩
  · exact formResult_of_clamped (by norm_num) (by norm_num) (by norm_num) hc (clampedValue_of_wide hwide ..) isPartial
  · have hclamp := clampedValue_of_narrow hnarrow x.format c
    rw [hrange] at hlo hle hhi hclamp
    exact formResult_of_clamped hlo hle hhi hc hclamp isPartial

end Sys2Proof.Machine

/-! PROOF. What the supervisor has set (R67, R167, R187, R189): every row that is no reset and no tick keeps it, but for
the part that SET_CORRECTION or SET_TIMERS sets. -/

namespace Sys2Proof.Machine

/-- What the supervisor has set, with the timebase and the hold of a reset: the Correction Table, and the three timer
limits with the alert mask. -/
structure Settings where
  hold : ResetHold
  timebase : Time
  table : Vector Correction 8
  limits : BitVec 16 × BitVec 16 × BitVec 16 × BitVec 5

/-- The settings of a state. -/
def State.settings (s : State) : Settings where
  hold := s.hold
  timebase := s.mp.timebase
  table := s.rf
  limits := (s.mp.holdLimit, s.mp.drainLimit, s.mp.responseLimit, s.evq.mask)

/-- An operation that leaves the settings' blocks alone, and hands records to EQ. -/
theorem State.settings_of_frame {s t : State} (hhold : t.hold = s.hold) (hrf : t.rf = s.rf) (hmp : t.mp = s.mp)
    (hevq : EQ.Grows s.evq t.evq) : t.settings = s.settings := by
  simp [State.settings, hhold, hrf, hmp, hevq.mask]

/-! ### The shared operations -/

theorem State.classify_settings (s : State) (r : Request) (link : Nat) (kept : Option Timer) :
    (s.classify r link kept).settings = s.settings :=
  State.settings_of_frame (by simp) (by simp) (by simp) (s.classify_grows r link kept)

theorem State.release_settings (s : State) : s.release.settings = s.settings :=
  State.settings_of_frame (by simp) (by simp) (by simp) s.release_grows

theorem State.settle_settings (before s : State) : (State.settle before s).settings = s.settings :=
  State.settings_of_frame (by simp) (by simp) (by simp) (State.settle_grows before s)

theorem processHeads_settings (l : List Program) (s : State) : (processHeads l s).settings = s.settings :=
  State.settings_of_frame (by simp) (by simp) (by simp) (processHeads_grows l s)

theorem State.complete_settings (s : State) (i : Fin 64) (p f : Bool) : (s.complete i p f).settings = s.settings :=
  State.settings_of_frame (by simp) (by simp) (by simp) (s.complete_grows i p f)

theorem State.completeAll_settings (s : State) (l : List (Fin 64)) (p f : Bool) :
    (s.completeAll l p f).settings = s.settings :=
  State.settings_of_frame (by simp) (by simp) (by simp) (s.completeAll_grows l p f)

theorem State.record_settings (s : State) (k : EventKind) (w : Option (Fin 16)) (slot : Option Nat) (d : BitVec 32)
    (n : Nat) : (s.record k w slot d n).settings = s.settings :=
  State.settings_of_frame rfl rfl rfl (s.record_grows k w slot d n)

theorem State.grantCommit_settings (s : State) (i : Fin 64) (c : Completed) :
    (s.grantCommit i c).settings = s.settings :=
  State.settings_of_frame (by simp) (by simp) (by simp) (s.grantCommit_grows i c)

theorem keepTests_settings (n : Nat) (s : State) : (keepTests n s).settings = s.settings :=
  State.settings_of_frame (by simp) (by simp) (by simp) (keepTests_grows n s)

theorem State.issuePoints_settings (s : State) : s.issuePoints.settings = s.settings :=
  State.settings_of_frame (by simp) (by simp) (by simp) s.issuePoints_grows

theorem State.startTimer_settings (s : State) : s.startTimer.settings = s.settings :=
  State.settings_of_frame (by simp) (by simp) (by simp) s.startTimer_grows

/-! ### The rows of the link, the arbiter and the timers -/

theorem State.present_settings (s : State) (r : Request) : (s.present r).settings = s.settings := by
  unfold State.present
  split
  · exact State.classify_settings _ r s.ig.nextLink none
  · rfl

theorem State.deliver_settings (s : State) : s.deliver.settings = s.settings := by
  unfold State.deliver
  repeat' split
  all_goals rfl

theorem State.holdExpiry_settings (s : State) : s.holdExpiry.settings = s.settings := by
  unfold State.holdExpiry
  split
  · split
    · exact State.settings_of_frame (by simp) (by simp) (by simp) (State.spill_grows (s.setHoldTimer none) ..)
    · rfl
  all_goals rfl

theorem State.idleEnd_settings (s : State) (i : Fin 64) (a : Accum) : (s.idleEnd i a).settings = s.settings := by
  unfold State.idleEnd
  split
  · exact s.complete_settings i true false
  · exact State.record_settings ((s.setCtx i .free).drop a.window a.count) ..

theorem State.idleExpiry_settings (s : State) (w : Fin 16) (slot : Nat) :
    (s.idleExpiry w slot).settings = s.settings := by
  unfold State.idleExpiry
  split
  · rfl
  · split
    · split
      · exact (State.settle_settings ..).trans (s.idleEnd_settings ..)
      · rfl
    all_goals rfl

theorem State.forceContexts_settings (s : State) (w : Fin 16) : (s.forceContexts w).settings = s.settings := by
  unfold State.forceContexts
  split
  · exact s.completeAll_settings ..
  · have hdiscard : ((s.openInOrder w).foldl (fun t i => t.discard w i) s).settings = s.settings :=
      State.settings_of_frame (by simp) (by simp) (by simp) (.of_eq (by simp))
    dsimp only
    split
    · exact hdiscard
    · exact (State.record_settings ..).trans hdiscard

theorem State.drainExpiry_settings (s : State) : s.drainExpiry.settings = s.settings := by
  unfold State.drainExpiry
  split
  · split
    · refine (State.settle_settings ..).trans ?_
      exact (State.forceContexts_settings _ _).trans (State.record_settings (s.setDrainTimer none) ..)
    · rfl
  all_goals rfl

theorem State.afterUnreachable_settings (s : State) : s.afterUnreachable.settings = s.settings := by
  unfold State.afterUnreachable
  exact ((keepTests_settings ..).trans (State.issuePoints_settings _)).trans (keepTests_settings ..)

theorem State.commitEntry_settings (s : State) : s.commitEntry.settings = s.settings := by
  unfold State.commitEntry
  split
  · rfl
  · rename_i i c _
    have hgrant := s.grantCommit_settings i c
    dsimp only
    split_ifs
    · exact ((State.settle_settings ..).trans (State.afterUnreachable_settings _)).trans hgrant
    · exact (State.settle_settings ..).trans hgrant
    · rfl

theorem State.ingressEntry_settings (s : State) : s.ingressEntry.settings = s.settings := by
  unfold State.ingressEntry
  split
  · rfl
  · rfl
  · split
    · exact State.settings_of_frame (by simp) (by simp) (by simp) (.of_eq (by simp))
    · rfl

theorem State.send_settings (s : State) (e : EgressEntry) : (s.send e).settings = s.settings := by
  unfold State.send
  dsimp only
  split
  · exact State.startTimer_settings _
  · rfl

theorem State.issue_settings (s : State) (ready : Bool) : (s.issue ready).settings = s.settings := by
  unfold State.issue
  split
  · rfl
  · split_ifs
    · exact s.issuePoints_settings
    · exact (State.issuePoints_settings _).trans (s.send_settings _)
    · rfl

theorem State.memoryResponse_settings (s : State) (st : LinkStatus) (d : Lanes) :
    (s.memoryResponse st d).settings = s.settings := by
  unfold State.memoryResponse
  split
  · exact State.record_settings (s.setAbandoned _) ..
  · split
    · refine (State.startTimer_settings _).trans ?_
      exact State.settings_of_frame (by simp) (by simp) (by simp) (s.completeEntry_grows ..)
    · exact s.record_settings ..

theorem State.responseExpiry_settings (s : State) : s.responseExpiry.settings = s.settings := by
  unfold State.responseExpiry
  split
  · split
    · refine (State.startTimer_settings _).trans ?_
      exact State.settings_of_frame (by simp) (by simp) (by simp) (s.timeoutEntry_grows _)
    · rfl
  all_goals rfl

/-! ### The rows of the management port -/

theorem State.stageProgram_settings (s : State) (p : Program) : (s.stageProgram p).settings = s.settings := by
  unfold State.stageProgram
  split
  · exact (State.release_settings _).trans (processHeads_settings ..)
  · rfl

theorem State.withdrawAll_settings (s : State) (w : Fin 16) : (s.withdrawAll w).settings = s.settings := by
  unfold State.withdrawAll
  dsimp only
  split
  · rfl
  · split
    · refine ((State.release_settings _).trans (processHeads_settings ..)).trans ?_
      split <;> rfl
    · rfl

theorem State.flushWindow_settings (s : State) (w : Fin 16) : (s.flushWindow w).settings = s.settings := by
  unfold State.flushWindow
  refine (State.settle_settings ..).trans (Eq.trans ?_ (s.completeAll_settings (s.openInOrder w) true true))
  split
  · exact State.record_settings ..
  · rfl

/-- Through this view of the settings no effect of the command shows. -/
def EffectKeeps {α : Type} (view : Settings → α) (effect : List Byte → State → State × Reply) : Prop :=
  ∀ args s, view (effect args s).1.settings = view s.settings

/-- A row of the port shows in the settings what the effect of its command shows (R175, R198). -/
theorem State.command_keeps {α : Type} {view : Settings → α} {effect : List Byte → State → State × Reply}
    (he : EffectKeeps view effect) (s : State) (code : Byte) (mdi : List Bool) :
    view (s.selected (·.transact code mdi effect)).settings = view s.settings := by
  unfold State.selected State.active
  split_ifs
  · rfl
  · unfold State.transact
    dsimp only
    cases judge (keptBytes code mdi)
    case run args => exact he args (s.receive code mdi).floatMdo
    all_goals rfl
  · rfl

theorem stageEffect_keeps : EffectKeeps id stageEffect := by
  intro args s
  unfold stageEffect
  split
  · rfl
  · split
    · exact s.stageProgram_settings _
    · rfl

theorem withdrawEffect_keeps : EffectKeeps id withdrawEffect := by
  intro args s
  unfold withdrawEffect
  split
  · rfl
  · exact s.withdrawAll_settings _

theorem flushEffect_keeps : EffectKeeps id flushEffect := by
  intro args s
  unfold flushEffect
  split
  · rfl
  · split_ifs
    · rfl
    · rfl
    · exact s.flushWindow_settings _

theorem queryWindowEffect_keeps : EffectKeeps id queryWindowEffect := by
  intro args s
  unfold queryWindowEffect
  split <;> rfl

theorem setMonitorEffect_keeps : EffectKeeps id setMonitorEffect := by
  intro args s
  unfold setMonitorEffect
  split <;> rfl

theorem releaseMonitorEffect_keeps : EffectKeeps id releaseMonitorEffect := by
  intro args s
  unfold releaseMonitorEffect
  split <;> rfl

/-- A POP_EVENT leaves the alert mask (R162, R164). -/
theorem EQ.pop_mask (q : EQ) (now : Time) : (q.pop now).mask = q.mask := by
  unfold EQ.pop
  dsimp only
  split <;> rfl

theorem popEventEffect_keeps : EffectKeeps id popEventEffect := by
  intro args s
  unfold popEventEffect
  split
  · rfl
  · simp [State.settings, EQ.pop_mask]

theorem engineResetEffect_keeps : EffectKeeps id engineResetEffect := fun _ s =>
  (State.release_settings _).trans (s.engineResetBlocks.record_settings ..)

/-- SET_CORRECTION sets the Correction Table alone (R79). -/
theorem setCorrectionEffect_keeps : EffectKeeps (fun x => (x.hold, x.timebase, x.limits)) setCorrectionEffect := by
  intro args s
  unfold setCorrectionEffect
  split <;> rfl

/-- SET_TIMERS sets the limits and the alert mask alone (R189). -/
theorem setTimersEffect_keeps : EffectKeeps (fun x => (x.hold, x.timebase, x.table)) setTimersEffect := by
  intro args s
  unfold setTimersEffect
  split <;> rfl

theorem State.responseRead_settings (s : State) (n : Nat) : (s.responseRead n).settings = s.settings := rfl

/-- A select period in which no byte is complete (R173). -/
theorem State.shortPeriod_settings {mdi : List Bool} (h : mdi.length < 8) (s : State) :
    (s.shortPeriod mdi).settings = s.settings := by
  unfold State.shortPeriod
  rw [completeBytes_short mdi h]
  rfl

/-- A frame that the first three lines of R175 refuse sets nothing. -/
theorem State.refusedFrame_settings {code : Byte} {mdi : List Bool} (hcode : code ≠ 0)
    (h : frameTaken code mdi = false) (s : State) : (s.transaction code mdi).settings = s.settings := by
  unfold frameTaken at h
  unfold State.transaction State.transact
  rw [if_neg hcode]
  cases hj : judge (keptBytes code mdi) <;> simp only [hj, Bool.true_eq_false] at h <;> rfl

/-! ### Every row -/

theorem State.active_settings (s : State) (f : State → State) (hf : ∀ t, (f t).settings = t.settings) :
    (s.active f).settings = s.settings := by
  unfold State.active
  split
  · exact hf s
  · rfl

theorem State.selected_settings (s : State) (f : State → State) (hf : ∀ t, (f t).settings = t.settings) :
    (s.selected f).settings = s.settings := by
  unfold State.selected
  split
  · rfl
  · exact s.active_settings f hf

/-- A well-formed row that is no reset, no tick, and neither of the two that set something, sets nothing. -/
theorem exec_settings {c : Instr} {s t : State} (hwf : c.wf = true) (hact : c.actsInReset = false)
    (hcorrection : ∀ mdi, c ≠ .setCorrection mdi) (htimers : ∀ mdi, c ≠ .setTimers mdi) (h : exec c s = .next t) :
    t.settings = s.settings := by
  have hreply (f : State → Reply) : EffectKeeps id (fun _ s => (s, f s)) := fun _ _ => rfl
  cases c
  case setCorrection mdi => exact absurd rfl (hcorrection mdi)
  case setTimers mdi => exact absurd rfl (htimers mdi)
  case timebaseTick | powerOnReset | rstAssert | resetRelease => cases hact
  case responseRead p =>
    cases p <;> cases h
    case read mdi => exact s.selected_settings _ fun t => t.responseRead_settings _
    case short mdi => exact s.selected_settings _ (State.shortPeriod_settings (of_decide_eq_true hwf))
    case begun => cases hact
  all_goals cases h
  case ingressRequest => exact s.active_settings _ fun t => t.present_settings _
  case holdTimerExpiry => exact s.active_settings _ State.holdExpiry_settings
  case idleExpiry => exact s.active_settings _ fun t => t.idleExpiry_settings _ _
  case commitEntry => exact s.active_settings _ State.commitEntry_settings
  case ingressEntry => exact s.active_settings _ State.ingressEntry_settings
  case issue => exact s.active_settings _ fun t => t.issue_settings _
  case egressResponse => exact s.active_settings _ fun t => t.memoryResponse_settings _ _
  case responseTimeout => exact s.active_settings _ State.responseExpiry_settings
  case deliverResponse => exact s.active_settings _ State.deliver_settings
  case drainTimerExpiry => exact s.active_settings _ State.drainExpiry_settings
  case unknownCommand code mdi =>
    obtain ⟨hcode, hframe⟩ : code ≠ 0 ∧ frameTaken code mdi = false := by simpa [Instr.wf] using hwf
    exact s.selected_settings _ (State.refusedFrame_settings hcode hframe)
  case ident mdi => exact s.command_keeps (hreply _) 0x01 mdi
  case readTime mdi => exact s.command_keeps (hreply _) 0x02 mdi
  case stage mdi => exact s.command_keeps stageEffect_keeps 0x10 mdi
  case withdraw mdi => exact s.command_keeps withdrawEffect_keeps 0x11 mdi
  case flush mdi => exact s.command_keeps flushEffect_keeps 0x12 mdi
  case queryWindow mdi => exact s.command_keeps queryWindowEffect_keeps 0x13 mdi
  case queryPool mdi => exact s.command_keeps (hreply _) 0x14 mdi
  case setMonitor mdi => exact s.command_keeps setMonitorEffect_keeps 0x21 mdi
  case releaseMonitor mdi => exact s.command_keeps releaseMonitorEffect_keeps 0x22 mdi
  case popEvent mdi => exact s.command_keeps popEventEffect_keeps 0x30 mdi
  case eventStatus mdi => exact s.command_keeps (hreply _) 0x31 mdi
  case engineReset mdi => exact s.command_keeps engineResetEffect_keeps 0x41 mdi

/-- Settles O4: SET_CORRECTION and SET_TIMERS by what they set, every other row by the settings it keeps. -/
theorem configurationStays : Obligations.ConfigurationStays := by
  unfold Obligations.ConfigurationStays
  intro c s t hwf hact h
  by_cases hcorrection : ∃ mdi, c = .setCorrection mdi
  · obtain ⟨mdi, rfl⟩ := hcorrection
    cases h
    have hkept := s.command_keeps setCorrectionEffect_keeps 0x20 mdi
    simp only [State.settings, Prod.mk.injEq] at hkept
    obtain ⟨hhold, htime, hlimits⟩ := hkept
    exact ⟨htime, hhold, fun hne => absurd rfl (hne mdi), fun _ => hlimits⟩
  by_cases htimers : ∃ mdi, c = .setTimers mdi
  · obtain ⟨mdi, rfl⟩ := htimers
    cases h
    have hkept := s.command_keeps setTimersEffect_keeps 0x40 mdi
    simp only [State.settings, Prod.mk.injEq] at hkept
    obtain ⟨hhold, htime, htable⟩ := hkept
    exact ⟨htime, hhold, fun _ => htable, fun hne => absurd rfl (hne mdi)⟩
  · have hkept := exec_settings hwf hact (not_exists.1 hcorrection) (not_exists.1 htimers) h
    simp only [State.settings, Settings.mk.injEq, Prod.mk.injEq] at hkept
    obtain ⟨hhold, htime, htable, hlimits⟩ := hkept
    exact ⟨htime, hhold, fun _ => htable, fun _ => hlimits⟩

end Sys2Proof.Machine

/-! PROOF. Unreachable records (R77, R111, R112, R125): the run of issue points, and the grant and the issue that bring
it about. -/

namespace Sys2Proof.Machine

/-! ### A run of issue points (R125) -/

/-- What an entry does when it leaves at its issue point: COMMIT_ERROR with aux 2, and the failure (R111, R112). -/
def State.failEntry (s : State) (x : EgressEntry) : State :=
  match x.work with
  | .commit l => s.commitError l 2
  | .passRead _ => s
  | .passWrite _ => s

theorem State.failEntry_of_commit {x : EgressEntry} {l : CommitLink} (h : x.work = .commit l) (s : State) :
    s.failEntry x = s.commitError l 2 := by
  simp only [State.failEntry, h]

/-- The failure of an entry neither reads nor writes the Egress Queue (R112). -/
theorem State.setQueue_commitError (s : State) (l : CommitLink) (aux : Nat) (q : List EgressEntry) :
    (s.commitError l aux).setQueue q = (s.setQueue q).commitError l aux := by
  unfold State.commitError State.commitFailure
  rw [apply_ite (State.setQueue · q)]
  rfl

theorem EgressEntry.exists_link {e : EgressEntry} (h : e.isUnreachable = true) :
    ∃ l, e.work = .commit l ∧ l.unreachable = true := by
  unfold EgressEntry.isUnreachable at h
  cases hw : e.work <;> simp only [hw, Bool.false_eq_true] at h
  exact ⟨_, rfl, h⟩

/-- With no WAITING entry no issue point is reached (R125). -/
theorem issuePointsFuel_of_none (n : Nat) {s : State} (h : ∀ e ∈ s.eg.queue, e.isIssued = true) :
    issuePointsFuel n s = s := by
  have hnone : s.oldestWaiting = none := by simpa [State.oldestWaiting] using h
  cases n <;> simp [issuePointsFuel, hnone]

/-- A reachable oldest WAITING entry waits for its issue (R124, R125). -/
theorem issuePointsFuel_of_reachable (n : Nat) {s : State} {e : EgressEntry} (h : s.oldestWaiting = some e)
    (hu : e.isUnreachable = false) : issuePointsFuel n s = s := by
  cases n with
  | zero => rfl
  | succ n =>
    unfold EgressEntry.isUnreachable at hu
    simp only [issuePointsFuel, h]
    cases hw : e.work with
    | commit l =>
      rw [hw] at hu
      exact if_neg (Bool.eq_false_iff.1 hu)
    | passRead link => rfl
    | passWrite link => rfl

/-- The oldest WAITING entry of a queue, taken out of it (R125). -/
theorem dropOldestWaiting_append {pre post : List EgressEntry} {e : EgressEntry} (h : ∀ x ∈ pre, x.isIssued = true)
    (he : e.isIssued = false) : dropOldestWaiting (pre ++ e :: post) = pre ++ post := by
  rw [dropOldestWaiting, List.eraseP_append_right _ (by simpa using h), List.eraseP_cons_of_pos (by simp [he])]

/-- An unreachable entry at its issue point leaves the queue with its failure, and the next one is looked at (R125). -/
theorem issuePointsFuel_step (n : Nat) {s : State} {pre post : List EgressEntry} {e : EgressEntry}
    (hq : s.eg.queue = pre ++ e :: post) (hpre : ∀ x ∈ pre, x.isIssued = true) (he : e.isIssued = false)
    (hu : e.isUnreachable = true) :
    issuePointsFuel (n + 1) s = issuePointsFuel n ((s.failEntry e).setQueue (pre ++ post)) := by
  obtain ⟨l, hw, hl⟩ := EgressEntry.exists_link hu
  have holdest : s.oldestWaiting = some e := by
    rw [State.oldestWaiting, hq]
    exact find?_waiting pre post e hpre he
  simp only [issuePointsFuel, holdest, hw, hl, if_true]
  rw [State.failEntry_of_commit hw, State.setQueue_commitError, hq, dropOldestWaiting_append hpre he]

/-- What stands behind a run of unreachable entries: nothing, or a reachable WAITING entry. -/
def StopsRun (post : List EgressEntry) : Prop :=
  ∀ x tail, post = x :: tail → x.isIssued = false ∧ x.isUnreachable = false

/-- A run of unreachable entries behind the ISSUED ones: they leave one after another (R125). -/
theorem issuePointsFuel_of_run {pre post : List EgressEntry} (hpre : ∀ x ∈ pre, x.isIssued = true)
    (hpost : StopsRun post) (run : List EgressEntry) (n : Nat) (hn : run.length ≤ n) (s : State)
    (hq : s.eg.queue = pre ++ (run ++ post))
    (hrun : ∀ x ∈ run, x.isIssued = false ∧ x.isUnreachable = true) :
    issuePointsFuel n s = run.foldl State.failEntry (s.setQueue (pre ++ post)) := by
  induction run generalizing n s with
  | nil =>
    have hsame : s.setQueue (pre ++ post) = s := by rw [← List.nil_append post, ← hq]; rfl
    rw [List.foldl_nil, hsame]
    cases post with
    | nil => exact issuePointsFuel_of_none n (by simpa [hq] using hpre)
    | cons x tail =>
      obtain ⟨hx, hu⟩ := hpost x tail rfl
      refine issuePointsFuel_of_reachable n ?_ hu
      rw [State.oldestWaiting, hq]
      exact find?_waiting pre tail x hpre hx
  | cons x run ih =>
    obtain ⟨hx, hu⟩ := hrun x (by simp)
    obtain ⟨l, hw, -⟩ := EgressEntry.exists_link hu
    obtain ⟨m, rfl⟩ := Nat.exists_eq_add_of_le' hn
    rw [List.length_cons, ← Nat.add_assoc, issuePointsFuel_step _ hq hpre hx hu,
      ih (m + run.length) (by omega) _ rfl fun y hy => hrun y (by simp [hy])]
    show run.foldl State.failEntry ((s.failEntry x).setQueue (pre ++ post)) = _
    rw [List.foldl_cons, State.failEntry_of_commit hw, State.setQueue_commitError, State.failEntry_of_commit hw]

theorem State.issuePoints_of_run {s : State} {pre run post : List EgressEntry}
    (hpre : ∀ x ∈ pre, x.isIssued = true) (hpost : StopsRun post)
    (hq : s.eg.queue = pre ++ (run ++ post))
    (hrun : ∀ x ∈ run, x.isIssued = false ∧ x.isUnreachable = true) :
    s.issuePoints = run.foldl State.failEntry (s.setQueue (pre ++ post)) :=
  issuePointsFuel_of_run hpre hpost run _ (by simp [hq]; omega) s hq hrun

/-- An unreachable entry that joins ISSUED entries leaves at once (R125). -/
theorem State.issuePoints_of_joined {s : State} {q : List EgressEntry} {x : EgressEntry}
    (hq : s.eg.queue = q ++ [x]) (hissued : ∀ e ∈ q, e.isIssued = true) (hx : x.isIssued = false)
    (hu : x.isUnreachable = true) : s.issuePoints = (s.setQueue q).failEntry x := by
  have hrun := State.issuePoints_of_run (run := [x]) (post := []) hissued (by simp [StopsRun]) hq
    fun y hy => by rw [List.mem_singleton.1 hy]; exact ⟨hx, hu⟩
  rwa [List.append_nil] at hrun

/-- Behind a reachable WAITING entry no issue point is reached (R125). -/
theorem State.issuePoints_of_blocked {s : State} {pre post : List EgressEntry} {e : EgressEntry}
    (hpre : ∀ x ∈ pre, x.isIssued = true) (he : e.isIssued = false) (hu : e.isUnreachable = false)
    (hq : s.eg.queue = pre ++ e :: post) : s.issuePoints = s := by
  refine issuePointsFuel_of_reachable _ ?_ hu
  rw [State.oldestWaiting, hq]
  exact find?_waiting pre post e hpre he

/-! ### The issue of an entry (R124, R126, R127) -/

section
variable {s : State} {pre post : List EgressEntry} {e : EgressEntry}

/-- Behind the oldest WAITING entry nothing is ISSUED, so the ISSUED entries are those ahead of it (R119, R126). -/
theorem State.issuedCount_of_queue (hq : s.eg.queue = pre ++ e :: post) (hpre : ∀ x ∈ pre, x.isIssued = true)
    (he : e.isIssued = false) (hpost : ∀ x ∈ post, x.isIssued = false) : s.issuedCount = pre.length := by
  have hahead : pre.countP EgressEntry.isIssued = pre.length := List.countP_eq_length.2 hpre
  have hbehind : post.countP EgressEntry.isIssued = 0 := List.countP_eq_zero.2 (by simpa using hpost)
  simp [State.issuedCount, hq, hahead, hbehind, he]

/-- The oldest WAITING entry is sent to memory and ISSUED now; as the only ISSUED entry it starts the response timer
(R124, R127). -/
theorem State.send_eq (hq : s.eg.queue = pre ++ e :: post) (hpre : ∀ x ∈ pre, x.isIssued = true)
    (he : e.isIssued = false) (hpost : ∀ x ∈ post, x.isIssued = false) (hlimit : 1 ≤ s.mp.responseLimit.toNat) :
    s.send e = { s with
      eg := { s.eg with
        queue := pre ++ { e with issued := some s.mp.timebase } :: post
        timer := if pre = [] then some s.mp.responseLimit else s.eg.timer }
      pins := { s.pins with egq := some e.request } } := by
  have hfirst : s.issuedCount = 0 ↔ pre = [] := by
    rw [State.issuedCount_of_queue hq hpre he hpost, List.length_eq_zero_iff]
  unfold State.send
  simp only [hq, issueOldest_append _ pre post e hpre he, hfirst]
  by_cases hnone : pre = []
  · rw [if_pos hnone, if_pos hnone, State.startTimer_of_young]
    · simp [hnone, EgressEntry.isIssued, State.setRespTimer, State.setQueue]
    · intro x hx hissued
      have hx : x = { e with issued := some s.mp.timebase } ∨ x ∈ post := by simpa [hnone] using hx
      rcases hx with rfl | hx
      · show (s.mp.timebase - s.mp.timebase).toNat < s.mp.responseLimit.toNat
        rw [sub_self]
        exact hlimit
      · rw [hpost x hx] at hissued
        cases hissued
  · rw [if_neg hnone, if_neg hnone]
    rfl

/-- With room under the issue limit, EGQ_READY high makes a reachable oldest WAITING entry issue, and the issue points
behind it follow (R124 to R126). -/
theorem State.issue_of_ready (hr : s.hold = .running) (hq : s.eg.queue = pre ++ e :: post)
    (hpre : ∀ x ∈ pre, x.isIssued = true) (he : e.isIssued = false) (hu : e.isUnreachable = false)
    (hpost : ∀ x ∈ post, x.isIssued = false) (hroom : pre.length + s.eg.abandoned < 16) :
    s.issue true = (s.send e).issuePoints := by
  have holdest : s.oldestWaiting = some e := by
    rw [State.oldestWaiting, hq]
    exact find?_waiting pre post e hpre he
  have hvalid : s.egqValid = true := by
    simp [State.egqValid, State.running, hr, holdest, hu, State.issuedCount_of_queue hq hpre he hpost,
      Config.egressQueue, hroom]
  simp [State.issue, holdest, hu, hvalid]

end

/-! ### The failure of an entry (R111, R112) -/

/-- COMMIT_ERROR, and unread becomes no when the entry is not stale and its seq is still the slot's (R111, R112). -/
theorem State.commitError_eq (s : State) (l : CommitLink) (aux : Nat) : s.commitError l aux =
    if l.stale = false ∧ (s.slotAt l.index).seq = l.seq then
      { s.record .commitError (some l.window) (some l.slot) (l.seq.setWidth 32) aux with
        ct := s.ct.setIfInBounds l.index ⟨l.seq, false⟩ }
    else s.record .commitError (some l.window) (some l.slot) (l.seq.setWidth 32) aux := by
  unfold State.commitError State.commitFailure
  by_cases h : l.stale = false ∧ (s.slotAt l.index).seq = l.seq
  · obtain ⟨hstale, hseq⟩ := h
    simp only [State.record_slotAt, hstale, hseq]
    rfl
  · rw [if_neg h, if_neg (by rwa [Bool.and_eq_true, Bool.not_eq_true', decide_eq_true_eq])]

theorem State.slotAt_commitError {s : State} {l : CommitLink} (hstale : l.stale = false)
    (hseq : (s.slotAt l.index).seq = l.seq) (hindex : l.index < 1024) (aux k : Nat) :
    (s.commitError l aux).slotAt k = if l.index = k then ⟨l.seq, false⟩ else s.slotAt k := by
  rw [State.commitError_eq, if_pos ⟨hstale, hseq⟩]
  exact (s.slotAt_setSlot l.index k ⟨l.seq, false⟩).trans (by simp [hindex])

theorem State.commitError_evq (s : State) (l : CommitLink) (aux : Nat) : (s.commitError l aux).evq =
    (s.record .commitError (some l.window) (some l.slot) (l.seq.setWidth 32) aux).evq := by
  simp [State.commitError]

/-! ### The grant of an unreachable record (R77, R125) -/

/-- The grant of a commit counts its record (R33, R103). -/
theorem State.grantCommit_committedRecords (s : State) (i : Fin 64) (c : Completed) :
    ((s.grantCommit i c).win c.acc.window).counters.committedRecords =
      (s.win c.acc.window).counters.committedRecords + 1 := by
  unfold State.grantCommit
  dsimp only
  split <;> simp [State.win]

/-- The part after the grant of an unreachable record, before its issue point: a free value has been used (log 10). -/
def State.granted (s : State) (i : Fin 64) (c : Completed) : State :=
  { s.grantCommit i c with freeIdx := (s.grantCommit i c).freeIdx + 1 }

section
variable {s : State} {i : Fin 64} {c : Completed}

/-- The grant of the last record of the Commit List, an unreachable one, with nothing held and nothing staged: of the
event's end only the issue point is left (R125). -/
theorem State.commitEntry_of_unreachable (hl : s.ae.commitList = [i]) (hc : s.ctx i = .committing c)
    (hk : s.keepHit c = false) (hq : s.eg.queue.length < 16) (hu : c.unreachable = true) (hs : s.pa.stage = [])
    (hn : s.NoHeld) : s.commitEntry = (s.granted i c).issuePoints := by
  have hposition : s.hasPosition = true := decide_eq_true hq
  have hcandidate : s.commitCandidate = some (i, c) := by simp [State.commitCandidate, hl, hc, hk]
  have hlist : (s.granted i c).ae.commitList = [] := by
    show (s.grantCommit i c).ae.commitList = []
    rw [(s.grantCommit_ae i c).2, hl]
    rfl
  have hwaits : HeadWaits (s.granted i c).issuePoints := .of_nil (by simpa using hlist)
  have hafter : (s.grantCommit i c).afterUnreachable = (s.granted i c).issuePoints := by
    show (keepTests _ (s.granted i c)).issuePoints.keepRun = _
    rw [keepTests_of_headWaits _ (.of_nil hlist), State.keepRun_of_headWaits hwaits]
  have hstage : (s.granted i c).issuePoints.pa.stage = [] := by simp [State.granted, hs]
  have hheld : (s.granted i c).issuePoints.NoHeld := by
    intro h hh
    exact hn h (by simpa [State.granted] using hh)
  simp only [State.commitEntry, hcandidate, hposition, hu, if_true, hafter]
  exact State.settle_of_quiet hwaits hstage hheld

/-- What the grant of an unreachable, unmarked record to a slot that is not unread writes (R77, R103). -/
theorem State.granted_writes (hl : s.ae.commitList = [i]) (hf : c.flushMark = false)
    (hunread : (s.slotAt ((s.win c.acc.window).fields.slotBase.toNat + c.acc.slot)).unread = false) :
    let index := (s.win c.acc.window).fields.slotBase.toNat + c.acc.slot
    let seq := (s.slotAt index).seq + 1
    (∀ k, (s.granted i c).slotAt k = if index = k ∧ index < 1024 then ⟨seq, true⟩ else s.slotAt k) ∧
    (s.granted i c).eg = { s.eg with queue := s.eg.queue ++ [c.entry seq index false] } ∧
    (s.granted i c).evq = s.evq ∧ (s.granted i c).pins = s.pins ∧ (s.granted i c).mp = s.mp ∧
    (s.granted i c).ctx i = .free ∧ (s.granted i c).ae.commitList = [] ∧
    ((s.granted i c).win c.acc.window).counters.committedRecords =
      (s.win c.acc.window).counters.committedRecords + 1 := by
  intro index seq
  obtain ⟨hslot, heg, hevq⟩ := s.grantCommit_writes i hf
  obtain ⟨hpool, hlist⟩ := s.grantCommit_ae i c
  rw [hunread] at heg hevq
  refine ⟨hslot, heg, hevq, by simp [State.granted], by simp [State.granted], ?_, ?_,
    s.grantCommit_committedRecords i c⟩
  · exact (State.ctx_of_set hpool i).trans (if_pos rfl)
  · rw [hl] at hlist
    exact hlist

end

/-- A record waits for a grant when its slot is not unread (R105, R120). -/
theorem State.keepHit_of_read {s : State} {c : Completed}
    (h : (s.slotAt ((s.win c.acc.window).fields.slotBase.toNat + c.acc.slot)).unread = false) : s.keepHit c = false :=
  (s.keepHit_eq_false_iff c).2 (Or.inr h)

/-- Settles O44: the grant by whether a WAITING entry stands ahead, the issue by the run behind the entry it sends. -/
theorem unreachableCommitFails : Obligations.UnreachableCommitFails := by
  unfold Obligations.UnreachableCommitFails
  refine ⟨?grant, ?issue⟩
  case grant =>
    intro s i c hr hn hs hq hl hc hu hf w idx seq hidx hunread
    have hexec : exec .commitEntry s = .next (s.granted i c).issuePoints := by
      show Host.Outcome.next (s.active State.commitEntry) = _
      rw [State.active_running hr,
        State.commitEntry_of_unreachable hl hc (State.keepHit_of_read hunread) hq hu hs hn]
    rw [hexec]
    obtain ⟨hslot, heg, hevq, hpins, hmp, hctx, hlist, hcount⟩ := State.granted_writes hl hf hunread
    generalize s.granted i c = g at *
    have hqueue : g.eg.queue = s.eg.queue ++ [c.entry seq idx false] := by rw [heg]
    refine ⟨fun hissued => ?_, fun pre e post hpost hpre he hreach => ?_⟩
    · have hleave : g.issuePoints = (g.setQueue s.eg.queue).commitError ⟨w, c.acc.slot, seq, idx, true, false⟩ 2 := by
        rw [State.issuePoints_of_joined hqueue hissued rfl hu, State.failEntry_of_commit rfl, hu]
      have hown : (g.setQueue s.eg.queue).slotAt idx = ⟨seq, true⟩ := (hslot idx).trans (if_pos ⟨rfl, hidx⟩)
      have hread := State.slotAt_commitError (s := g.setQueue s.eg.queue)
        (l := ⟨w, c.acc.slot, seq, idx, true, false⟩) rfl (by rw [hown]) hidx 2
      refine ⟨_, rfl, ?_, fun k hk => ?_, ?_, ?_, ?_, ?_, ?_, ?_⟩
      · rw [hleave, hread, if_pos rfl]
      · rw [hleave, hread, if_neg (Ne.symm hk)]
        exact (hslot k).trans (if_neg fun h => hk h.1.symm)
      · simp [hleave, heg]
      · simp [hpins]
      · exact (congrFun (State.ctx_of_pool (by simp)) i).trans hctx
      · simp [hlist]
      · have hwt : g.issuePoints.wt = g.wt := by simp
        rw [State.win, hwt]
        exact hcount
      · rw [hleave, State.commitError_evq]
        exact State.record_evq_congr hevq (by simp [hmp]) ..
    · have hstay : g.issuePoints = g :=
        State.issuePoints_of_blocked (post := post ++ [c.entry seq idx false]) hpre he hreach
          (by rw [hqueue, hpost, List.append_assoc, List.cons_append])
      rw [hstay]
      refine ⟨g, c.entry seq idx false, rfl, (hslot idx).trans (if_pos ⟨rfl, hidx⟩),
        fun k hk => (hslot k).trans (if_neg fun h => hk h.1.symm), heg, hu, rfl, hpins, hctx, hlist, hcount, hevq⟩
  case issue =>
    intro s pre e run post hr hq hpre he hreach hwaiting hrun hpost hroom hlimit kind sent failed
    have hfailed : failed = State.failEntry := by
      funext u x
      simp only [failed, State.failEntry]
      cases x.work
      case commit l => exact (u.commitError_eq l 2).symm
      all_goals rfl
    have hsent : (s.send e).setQueue (pre ++ { e with issued := some s.mp.timebase } :: post) = sent := by
      rw [State.send_eq hq hpre he hwaiting hlimit]
      simp only [sent, kind, EgressEntry.request]
      cases e.work <;> rfl
    have hahead : ∀ x ∈ pre ++ [{ e with issued := some s.mp.timebase }], x.isIssued = true := by
      intro x hx
      rcases List.mem_append.1 hx with hx | hx
      · exact hpre x hx
      · rw [List.mem_singleton.1 hx]
        rfl
    have hstops : StopsRun post := fun x tail hx => ⟨hwaiting x (by simp [hx]), hpost x tail hx⟩
    show Host.Outcome.next (s.active (·.issue true)) = _
    rw [State.active_running hr, State.issue_of_ready hr hq hpre he hreach hwaiting hroom,
      State.issuePoints_of_run hahead hstops (run := run) (by rw [State.send_eq hq hpre he hwaiting hlimit]; simp)
        fun x hx => ⟨hwaiting x (by simp [hx]), hrun x hx⟩,
      hfailed, ← hsent, List.append_assoc, List.singleton_append]

end Sys2Proof.Machine

/-! PROOF. One monitor's turn on a result (R86 to R89): when it evaluates and matches, and what a run of matches does. -/

namespace Sys2Proof.Machine

/-- A monitor with its persistence counter for window `w` at `n` (R85). -/
def Monitor.counted (x : Monitor) (w : Fin 16) (n : Nat) : Monitor := { x with counters := x.counters.set w.val n }

theorem Monitor.evaluates_iff (x : Monitor) (w : Fin 16) :
    x.evaluates w = true ↔ x.enabled = true ∧ x.state = .armed ∧ x.mask.getLsbD w.val = true := by
  simp [Monitor.evaluates, and_assoc]

/-- A match in signed values (R87). -/
theorem Monitor.isMatch_iff (x : Monitor) (v : BitVec 32) : x.isMatch v = true ↔
    if x.mode = .inside then x.low.toInt ≤ v.toInt ∧ v.toInt ≤ x.high.toInt
    else v.toInt < x.low.toInt ∨ x.high.toInt < v.toInt := by
  unfold Monitor.isMatch
  cases x.mode <;> simp [BitVec.slt_iff_toInt_lt, BitVec.sle_iff_toInt_le]

section
variable {e : Eval} {m : Fin 4} {w : Fin 16}

/-- No match ends the run (R85, R88). -/
theorem Eval.turn_of_no_match (he : (e.s.mon m).evaluates w = true) (hm : (e.s.mon m).isMatch e.r.value = false)
    (slot : Nat) : Eval.turn w slot e m = { e with s := e.s.setMon m ((e.s.mon m).counted w 0) } := by
  simp [Eval.turn, he, hm, Monitor.counted]

/-- A match that leaves the run below P counts (R88). -/
theorem Eval.turn_of_run (he : (e.s.mon m).evaluates w = true) (hm : (e.s.mon m).isMatch e.r.value = true)
    (hrun : (e.s.mon m).counters[w.val] + 1 < (e.s.mon m).persistence.toNat) (slot : Nat) :
    Eval.turn w slot e m =
      { e with s := e.s.setMon m ((e.s.mon m).counted w ((e.s.mon m).counters[w.val] + 1)) } := by
  simp [Eval.turn, he, hm, hrun, Monitor.counted]

/-- A match that brings the run to P fires (R88). -/
theorem Eval.turn_of_full_run (he : (e.s.mon m).evaluates w = true) (hm : (e.s.mon m).isMatch e.r.value = true)
    (hrun : ¬ (e.s.mon m).counters[w.val] + 1 < (e.s.mon m).persistence.toNat) (slot : Nat) :
    Eval.turn w slot e m = e.fire m w slot := by
  simp [Eval.turn, he, hm, hrun]

end

/-- What a fire writes in the part: the LIMIT record, the counter and the latch (R89). -/
theorem Eval.fire_s (e : Eval) (m : Fin 4) (w : Fin 16) (slot : Nat) : (e.fire m w slot).s =
    (e.s.record .limit (some w) (some slot) e.r.value m.val).setMon m
      { (e.s.mon m).counted w 0 with state := if (e.s.mon m).latch then .latched else (e.s.mon m).state } := rfl

/-- Bit m of the HIT flags as a power of two (R75). -/
theorem hitBit_eq (m : Fin 4) : (1#4 <<< m.val) = BitVec.ofNat 4 (2 ^ m.val) := by
  revert m
  decide

/-- Settles O20: no evaluation, no match, a run below P, and a run that reaches P. -/
theorem monitorTurn : Obligations.MonitorTurn := by
  unfold Obligations.MonitorTurn
  intro w slot e m x v hit t count after
  have hhit : x.isMatch e.r.value = true ↔ hit := x.isMatch_iff e.r.value
  refine ⟨fun hout => ?_, fun henabled harmed hmask => ?_⟩
  · refine Eval.turn_of_not_evaluates (Bool.eq_false_iff.2 fun hev => ?_)
    obtain ⟨henabled, harmed, hmask⟩ := (Monitor.evaluates_iff _ w).1 hev
    rcases hout with h | h | h
    · exact absurd (henabled.symm.trans h) (by decide)
    · exact absurd (harmed.symm.trans h) (by decide)
    · exact absurd (hmask.symm.trans h) (by decide)
  have hev : x.evaluates w = true := (x.evaluates_iff w).2 ⟨henabled, harmed, hmask⟩
  refine ⟨fun hno => ?_, fun hyes hrun => ?_, fun hyes hrun => ?_⟩
  · exact Eval.turn_of_no_match hev (Bool.eq_false_iff.2 fun hm => hno (hhit.1 hm)) slot
  · exact Eval.turn_of_run hev (hhit.2 hyes) hrun slot
  · have hfire : t = e.fire m w slot := Eval.turn_of_full_run hev (hhit.2 hyes) hrun.not_lt slot
    have haction : t.withhold = if x.action = .withhold then some (e.withhold.getD m) else e.withhold := by
      rw [hfire]
      rfl
    refine ⟨?_, ?_, fun hreport => ?_, fun hwithhold => ?_⟩
    · have hafter : after = if x.latch then .latched else x.state := by rw [harmed]
      rw [hfire, Eval.fire_s, hafter]
      rfl
    · rw [hfire, ← hitBit_eq]
      rfl
    · rw [haction, hreport]
      rfl
    · rw [haction, hwithhold]
      rfl

end Sys2Proof.Machine

/-! PROOF. SET_MONITOR and RELEASE_MONITOR (R94, R95): the checks, and the one record that is written. -/

namespace Sys2Proof.Machine

/-! ### The argument of SET_MONITOR -/

/-- The 13 argument bytes of SET_MONITOR (R193). -/
def monitorBytes (m c p : Byte) (mask : BitVec 16) (low high : BitVec 32) : List Byte :=
  [m, c] ++ leBytes mask.toNat 2 ++ leBytes low.toNat 4 ++ leBytes high.toNat 4 ++ [p]

/-- The record that SET_MONITOR writes: the fields, ARMED, with its counters 0 (R94). -/
def monitorRecord (c p : Byte) (mask : BitVec 16) (low high : BitVec 32) : Monitor where
  enabled := c.getLsbD 0
  mask := mask
  low := low
  high := high
  mode := if c.getLsbD 1 then .inside else .outside
  persistence := p
  latch := c.getLsbD 2
  action := if c.getLsbD 3 then .withhold else .report
  state := .armed
  counters := Vector.replicate 16 0

/-- A number of `w` bytes reads back from its little-endian bytes. -/
theorem ofNat_leNat_leBytes (w : Nat) (x : BitVec (8 * w)) : BitVec.ofNat (8 * w) (leNat (leBytes x.toNat w)) = x := by
  have hfits : x.toNat < 256 ^ w := by
    rw [show 256 = 2 ^ 8 from rfl, ← pow_mul]
    exact x.isLt
  rw [leNat_leBytes w x.toNat hfits, BitVec.ofNat_toNat, BitVec.setWidth_eq]

theorem monitorIndex_of_lt {m : Byte} (h : m.toNat < 4) : monitorIndex m = some ⟨m.toNat, h⟩ := dif_pos h

theorem monitorIndex_of_refused {m : Byte} (h : 3 < m.toNat) : monitorIndex m = none := dif_neg (by omega)

/-- The monitor and the record that an argument spells, when the checks of R94 pass; none when one fails. -/
theorem monitorArg_monitorBytes (m c p : Byte) (mask : BitVec 16) (low high : BitVec 32) :
    monitorArg (monitorBytes m c p mask low high) =
      (monitorIndex m).bind fun i =>
        if low.toInt ≤ high.toInt ∧ (1 ≤ p.toNat ∧ p.toNat ≤ 15) ∧ c.toNat < 16 then
          some (i, monitorRecord c p mask low high)
        else none := by
  have hmask : BitVec.ofNat 16 (fieldAt (monitorBytes m c p mask low high) 2 2) = mask := ofNat_leNat_leBytes 2 mask
  have hlow : BitVec.ofNat 32 (fieldAt (monitorBytes m c p mask low high) 4 4) = low := ofNat_leNat_leBytes 4 low
  have hhigh : BitVec.ofNat 32 (fieldAt (monitorBytes m c p mask low high) 8 4) = high := ofNat_leNat_leBytes 4 high
  have hindex : byteAt (monitorBytes m c p mask low high) 0 = m := rfl
  have hcontrol : byteAt (monitorBytes m c p mask low high) 1 = c := rfl
  have hpersistence : byteAt (monitorBytes m c p mask low high) 12 = p := rfl
  unfold monitorArg
  rw [hmask, hlow, hhigh, hindex, hcontrol, hpersistence]
  cases monitorIndex m
  · rfl
  · simp [BitVec.sle_iff_toInt_le, and_assoc, monitorRecord]

section
variable {m c p : Byte} {low high : BitVec 32}

/-- An argument that fails a check of R94. -/
theorem monitorArg_of_refused (mask : BitVec 16)
    (h : 3 < m.toNat ∨ high.toInt < low.toInt ∨ p.toNat = 0 ∨ 15 < p.toNat ∨ 15 < c.toNat) :
    monitorArg (monitorBytes m c p mask low high) = none := by
  rw [monitorArg_monitorBytes]
  by_cases hm : m.toNat < 4
  · rw [monitorIndex_of_lt hm, Option.bind_some, if_neg (by omega)]
  · rw [monitorIndex_of_refused (by omega), Option.bind_none]

/-- An argument that passes the checks of R94. -/
theorem monitorArg_of_accepted (mask : BitVec 16) (hm : m.toNat < 4) (hrange : low.toInt ≤ high.toInt)
    (hp1 : 1 ≤ p.toNat) (hp15 : p.toNat ≤ 15) (hc : c.toNat ≤ 15) :
    monitorArg (monitorBytes m c p mask low high) = some (⟨m.toNat, hm⟩, monitorRecord c p mask low high) := by
  rw [monitorArg_monitorBytes, monitorIndex_of_lt hm, Option.bind_some, if_pos ⟨hrange, ⟨hp1, hp15⟩, by omega⟩]

end

/-! ### The commands -/

/-- A frame that executes at a port that listens: the effect of its command, and its reply stored. -/
theorem State.selected_transact {s : State} {code : Byte} {mdi : List Bool} {a : List Byte} (hl : s.Listening)
    (hx : Executes code mdi a) (effect : List Byte → State → State × Reply) :
    s.selected (·.transact code mdi effect) =
      (effect a (s.receive code mdi).floatMdo).1.store (effect a (s.receive code mdi).floatMdo).2 := by
  rw [State.selected_listening hl, State.transact_run _ _ _ _ _ hx]

/-- Settles O18, by what the argument spells when a check of R94 fails and when all pass. -/
theorem setMonitorWritesOneMonitor : Obligations.SetMonitorWritesOneMonitor := by
  unfold Obligations.SetMonitorWritesOneMonitor
  intro mdi s m c p mask low high hl hx
  have hexec : exec (.setMonitor mdi) s = .next (s.selected (·.transact 0x21 mdi setMonitorEffect)) := rfl
  rw [hexec, State.selected_transact hl hx, setMonitorEffect, ← monitorBytes]
  refine ⟨fun hrefused => ?_, fun hm hrange hp1 hp15 hc => ?_⟩
  · rw [monitorArg_of_refused mask hrefused]
    rfl
  · rw [monitorArg_of_accepted mask hm hrange hp1 hp15 hc]
    rfl

/-- The byte of a monitor's state in the RELEASE_MONITOR reply (R182). -/
theorem MonitorState.leBytes_code (x : MonitorState) : leBytes x.code 1 = [if x = .armed then 0 else 1] := by
  cases x <;> rfl

/-- Settles O19, by the monitor that the index names. -/
theorem releaseMonitorArmsOneMonitor : Obligations.ReleaseMonitorArmsOneMonitor := by
  unfold Obligations.ReleaseMonitorArmsOneMonitor
  intro mdi s m hl hx
  have hexec : exec (.releaseMonitor mdi) s = .next (s.selected (·.transact 0x22 mdi releaseMonitorEffect)) := rfl
  have hindex : byteAt [m] 0 = m := rfl
  rw [hexec, State.selected_transact hl hx, releaseMonitorEffect, hindex]
  refine ⟨fun hrefused => ?_, fun hm => ?_⟩
  · rw [monitorIndex_of_refused hrefused]
    rfl
  · rw [monitorIndex_of_lt hm]
    dsimp only
    rw [MonitorState.leBytes_code]
    rfl

end Sys2Proof.Machine

/-! PROOF. The monitor law (R84, R85): every operation that writes a monitor keeps it, and so does every step. -/

namespace Sys2Proof.Machine

/-! ### One monitor -/

/-- The law of one monitor: ARMED while it is disabled (R84), and every counter below P or at 0 (R85). -/
def Monitor.Lawful (x : Monitor) : Prop :=
  (x.enabled = false → x.state = .armed) ∧
    ∀ w, (h : w < 16) → x.counters[w] = 0 ∨ x.counters[w] < x.persistence.toNat

theorem monitorLaw_iff (s : State) : MonitorLaw s ↔ ∀ m, (s.mon m).Lawful := Iff.rfl

namespace Monitor

variable {x : Monitor}

/-- A monitor as every reset, release and SET_MONITOR leaves it. -/
theorem lawful_of_fresh (hs : x.state = .armed) (hc : x.counters = Vector.replicate 16 0) : x.Lawful :=
  ⟨fun _ => hs, fun w h => Or.inl (by simp [hc])⟩

theorem lawful_released (x : Monitor) : x.released.Lawful := lawful_of_fresh rfl rfl

theorem lawful_reset : Monitor.reset.Lawful := lawful_of_fresh rfl rfl

/-- A counter is set to 0, or to a run below P (R85, R88). -/
theorem Lawful.counted (h : x.Lawful) (w : Fin 16) {n : Nat} (hn : n = 0 ∨ n < x.persistence.toNat) :
    (x.counted w n).Lawful := by
  obtain ⟨harmed, hcounters⟩ := h
  refine ⟨harmed, fun v hv => ?_⟩
  simp only [Monitor.counted, Vector.getElem_set]
  split
  · exact hn
  · exact hcounters v hv

/-- An enabled monitor may be ARMED or LATCHED (R84). -/
theorem Lawful.restated (h : x.Lawful) (he : x.enabled = true) (st : MonitorState) : { x with state := st }.Lawful :=
  ⟨fun hd => absurd (he.symm.trans hd) (by decide), h.2⟩

end Monitor

/-- What SET_MONITOR writes is a fresh monitor (R94). -/
theorem lawful_of_monitorArg {a : List Byte} {m : Fin 4} {x : Monitor} (h : monitorArg a = some (m, x)) : x.Lawful := by
  unfold monitorArg at h
  dsimp only at h
  split at h
  · cases h
  · split at h
    · cases h
      exact Monitor.lawful_of_fresh rfl rfl
    · cases h

/-! ### The operations that write a monitor -/

namespace MonitorLaw

variable {s t : State}

/-- An operation that writes no monitor. -/
theorem of_lm (h : MonitorLaw s) (ht : t.lm = s.lm) : MonitorLaw t := by
  have hmon : t.mon = s.mon := by
    funext m
    simp only [State.mon, ht]
  rwa [monitorLaw_iff, hmon]

theorem lawful (h : MonitorLaw s) (m : Fin 4) : (s.mon m).Lawful := h m

theorem setMon (h : MonitorLaw s) (m : Fin 4) {x : Monitor} (hx : x.Lawful) : MonitorLaw (s.setMon m x) := by
  rw [monitorLaw_iff]
  intro k
  rw [State.mon_setMon]
  split
  · exact hx
  · exact h.lawful k

/-- One monitor's turn, in its four outcomes: it evaluates while it is enabled alone, so a fire may latch it (R86 to
R89). -/
theorem turn {e : Eval} (h : MonitorLaw e.s) (w : Fin 16) (slot : Nat) (m : Fin 4) :
    MonitorLaw (Eval.turn w slot e m).s := by
  have hx := h.lawful m
  by_cases he : (e.s.mon m).evaluates w = true
  · by_cases hm : (e.s.mon m).isMatch e.r.value = true
    · by_cases hrun : (e.s.mon m).counters[w.val] + 1 < (e.s.mon m).persistence.toNat
      · rw [Eval.turn_of_run he hm hrun]
        exact h.setMon m (hx.counted w (Or.inr hrun))
      · obtain ⟨henabled, -, -⟩ := (Monitor.evaluates_iff _ w).1 he
        have hrecord : MonitorLaw (e.s.record .limit (some w) (some slot) e.r.value m.val) := h.of_lm rfl
        rw [Eval.turn_of_full_run he hm hrun, Eval.fire_s]
        exact hrecord.setMon m ((hx.counted w (Or.inl rfl)).restated henabled _)
    · rw [Eval.turn_of_no_match he (Bool.eq_false_iff.2 hm)]
      exact h.setMon m (hx.counted w (Or.inl rfl))
  · rw [Eval.turn_of_not_evaluates (Bool.eq_false_iff.2 he)]
    exact h

theorem evaluate (h : MonitorLaw s) (w : Fin 16) (slot : Nat) (r : Result) : MonitorLaw (evaluate s w slot r).s :=
  (((turn (e := ⟨s, r, none⟩) h w slot 0).turn w slot 1).turn w slot 2).turn w slot 3

/-- An apply sets counters to 0 and no state (R96). -/
theorem applyProgram (h : MonitorLaw s) (p : Program) (rest : List Program) (route : Nat) :
    MonitorLaw (s.applyProgram p rest route) := by
  obtain ⟨-, -, hmon, -⟩ := s.applyProgram_writes p rest route
  rw [monitorLaw_iff]
  intro m
  rw [hmon]
  split
  · exact (h.lawful m).counted p.window (Or.inl rfl)
  · exact h.lawful m

/-- An engine reset releases every monitor (R97). -/
theorem engineResetBlocks (s : State) : MonitorLaw s.engineResetBlocks := by
  rw [monitorLaw_iff]
  intro m
  have hmon : s.engineResetBlocks.mon m = (s.mon m).released := by simp [State.engineResetBlocks, State.mon]
  exact hmon ▸ Monitor.lawful_released _

/-- A reset of the part gives every monitor its reset values (R98). -/
theorem resetBlocks (s : State) (hold : ResetHold) : MonitorLaw (s.resetBlocks hold) := by
  rw [monitorLaw_iff]
  intro m
  have hmon : (s.resetBlocks hold).mon m = Monitor.reset := by simp [State.resetBlocks, State.reset, State.mon]
  exact hmon ▸ Monitor.lawful_reset

/-! ### Completions, and the end of an event -/

theorem complete (h : MonitorLaw s) (i : Fin 64) (p f : Bool) : MonitorLaw (s.complete i p f) := by
  unfold State.complete
  split
  · rename_i a _
    have heval : MonitorLaw (s.evalOf a p).s := h.evaluate a.window a.slot _
    dsimp only
    split
    · exact heval.of_lm (by simp [State.evalOf])
    · exact heval.of_lm (by simp [State.evalOf])
  all_goals exact h

theorem completeAll (h : MonitorLaw s) (l : List (Fin 64)) (p f : Bool) : MonitorLaw (s.completeAll l p f) :=
  State.completeAll_induct MonitorLaw p f (fun _ i hs => hs.complete i p f) l s h

theorem completeIfFull (h : MonitorLaw s) (w : Fin 16) (slot : Nat) : MonitorLaw (s.completeIfFull w slot) := by
  unfold State.completeIfFull
  repeat' split
  case isTrue => exact h.complete _ false false
  all_goals exact h

theorem completeFull (h : MonitorLaw s) (w : Fin 16) (l : List (Nat × BitVec 48)) :
    MonitorLaw (s.completeFull w l) := by
  unfold State.completeFull
  induction l generalizing s with
  | nil => exact h
  | cons p l ih => exact ih (h.completeIfFull w p.1)

theorem absorb (h : MonitorLaw s) (w : Fin 16) (l : List (Nat × BitVec 48)) : MonitorLaw (s.absorb w l) :=
  completeFull (h.of_lm (by simp)) w l

theorem applyHead (h : MonitorLaw s) (p : Program) (rest : List Program) (route : Nat) :
    MonitorLaw (s.applyHead p rest route) := by
  unfold State.applyHead
  split
  · exact h.of_lm (by simp)
  · exact h.applyProgram p rest route

theorem processHeads (h : MonitorLaw s) (l : List Program) : MonitorLaw (processHeads l s) :=
  processHeads_induct MonitorLaw (fun _ p rest _ _ hs => hs.applyHead p rest 1)
    (fun _ p _ _ _ _ hs => hs.of_lm (by simp))
    (fun t p rest _ _ _ hs => (hs.of_lm (t := t.cutOver p.window) (by simp)).applyHead p rest 4) l s (h.of_lm rfl)

theorem finishDrain (h : MonitorLaw s) : MonitorLaw s.finishDrain := by
  unfold State.finishDrain
  split
  · exact h
  · rename_i p rest _
    split
    · exact ((h.of_lm (t := s.setDrainTimer none) rfl).applyHead p rest _).processHeads rest
    · exact h

theorem keepRun (h : MonitorLaw s) : MonitorLaw s.keepRun := h.of_lm (by simp)

theorem takeSamples (h : MonitorLaw s) (r : Request) (link : Nat) (d : Decoded) (kept : Option Timer) :
    MonitorLaw (s.takeSamples r link d kept) := by
  unfold State.takeSamples
  dsimp only
  split
  · refine (absorb ?_ _ _).keepRun.finishDrain
    exact h.of_lm rfl
  all_goals exact h.of_lm (by simp)

theorem classify (h : MonitorLaw s) (r : Request) (link : Nat) (kept : Option Timer) :
    MonitorLaw (s.classify r link kept) := by
  unfold State.classify
  split
  case h_4 d _ => exact h.takeSamples r link d kept
  all_goals exact h.of_lm (by simp)

theorem release (h : MonitorLaw s) : MonitorLaw s.release := by
  unfold State.release
  split
  case h_3 x _ => exact (h.of_lm (t := s.setHoldTimer none) rfl).classify x.req x.link (s.keptTimer x)
  all_goals exact h

theorem settle (h : MonitorLaw s) (before : State) : MonitorLaw (State.settle before s) := by
  unfold State.settle
  dsimp only
  split
  · exact h.keepRun.finishDrain.release
  · exact h.keepRun

/-! ### The rows of the link, the arbiter and the timers -/

theorem present (h : MonitorLaw s) (r : Request) : MonitorLaw (s.present r) := by
  unfold State.present
  split
  · refine classify ?_ r s.ig.nextLink none
    exact h.of_lm rfl
  · exact h

theorem deliver (h : MonitorLaw s) : MonitorLaw s.deliver := by
  unfold State.deliver
  repeat' split
  all_goals exact h.of_lm rfl

theorem holdExpiry (h : MonitorLaw s) : MonitorLaw s.holdExpiry := by
  unfold State.holdExpiry
  repeat' split
  all_goals exact h.of_lm (by simp)

theorem idleEnd (h : MonitorLaw s) (i : Fin 64) (a : Accum) : MonitorLaw (s.idleEnd i a) := by
  unfold State.idleEnd
  split
  · exact h.complete i true false
  · exact h.of_lm (by simp)

theorem idleExpiry (h : MonitorLaw s) (w : Fin 16) (slot : Nat) : MonitorLaw (s.idleExpiry w slot) := by
  unfold State.idleExpiry
  repeat' split
  case isTrue => exact (h.idleEnd _ _).settle s
  all_goals exact h

theorem forceContexts (h : MonitorLaw s) (w : Fin 16) : MonitorLaw (s.forceContexts w) := by
  unfold State.forceContexts
  split
  · exact h.completeAll (s.openInOrder w) true false
  · dsimp only
    split
    all_goals exact h.of_lm (by simp)

theorem drainExpiry (h : MonitorLaw s) : MonitorLaw s.drainExpiry := by
  unfold State.drainExpiry
  split
  · rename_i p _ _ _ _
    split
    · have hrecord : MonitorLaw ((s.setDrainTimer none).record .drainForced (some p.window) none
          (BitVec.ofNat 32 (s.openOf p.window)) 0) := h.of_lm rfl
      exact ((hrecord.forceContexts p.window).of_lm (by simp)).settle s
    · exact h
  all_goals exact h

theorem commitEntry (h : MonitorLaw s) : MonitorLaw s.commitEntry := by
  unfold State.commitEntry
  split
  · exact h
  · rename_i i c _
    have hgrant : MonitorLaw (s.grantCommit i c) := h.of_lm (by simp)
    dsimp only
    split_ifs
    · exact (hgrant.of_lm (by simp [State.afterUnreachable])).settle s
    · exact hgrant.settle s
    · exact h

theorem ingressEntry (h : MonitorLaw s) : MonitorLaw s.ingressEntry := by
  unfold State.ingressEntry
  repeat' split
  all_goals exact h.of_lm (by simp)

theorem issue (h : MonitorLaw s) (ready : Bool) : MonitorLaw (s.issue ready) := by
  have hsend (e : EgressEntry) : (s.send e).lm = s.lm := by
    unfold State.send
    dsimp only
    split <;> simp
  unfold State.issue
  repeat' split
  all_goals exact h.of_lm (by simp [hsend])

theorem memoryResponse (h : MonitorLaw s) (st : LinkStatus) (d : Lanes) : MonitorLaw (s.memoryResponse st d) := by
  unfold State.memoryResponse
  repeat' split
  all_goals exact h.of_lm (by simp)

theorem responseExpiry (h : MonitorLaw s) : MonitorLaw s.responseExpiry := by
  unfold State.responseExpiry
  repeat' split
  all_goals exact h.of_lm (by simp)

/-! ### The rows of the management port -/

theorem stageProgram (h : MonitorLaw s) (p : Program) : MonitorLaw (s.stageProgram p) := by
  unfold State.stageProgram
  split
  · exact (h.processHeads [p]).release
  · exact h.of_lm rfl

theorem withdrawAll (h : MonitorLaw s) (w : Fin 16) : MonitorLaw (s.withdrawAll w) := by
  unfold State.withdrawAll
  dsimp only
  split
  · exact h
  · split
    · refine (processHeads ?_ _).release
      split <;> exact h.of_lm rfl
    · exact h.of_lm rfl

theorem flushWindow (h : MonitorLaw s) (w : Fin 16) : MonitorLaw (s.flushWindow w) := by
  unfold State.flushWindow
  refine settle ((h.completeAll (s.openInOrder w) true true).of_lm ?_) s
  split <;> rfl

end MonitorLaw

/-- The effect of a command keeps the monitor law. -/
def EffectKeepsMonitors (effect : List Byte → State → State × Reply) : Prop :=
  ∀ args s, MonitorLaw s → MonitorLaw (effect args s).1

namespace EffectKeepsMonitors

theorem ite {c : Prop} [Decidable c] {f g : List Byte → State → State × Reply} (hf : EffectKeepsMonitors f)
    (hg : EffectKeepsMonitors g) : EffectKeepsMonitors (if c then f else g) :=
  iteInduction (fun _ => hf) fun _ => hg

/-- The commands that only reply (R179, R181, R184, R187). -/
theorem reply (f : List Byte → State → Reply) : EffectKeepsMonitors (fun args s => (s, f args s)) := fun _ _ h => h

theorem stage : EffectKeepsMonitors stageEffect := by
  intro args s h
  unfold stageEffect
  repeat' split
  case isTrue p _ _ => exact h.stageProgram p
  all_goals exact h

theorem withdraw : EffectKeepsMonitors withdrawEffect := by
  intro args s h
  unfold withdrawEffect
  split
  · exact h
  · exact h.withdrawAll _

theorem flush : EffectKeepsMonitors flushEffect := by
  intro args s h
  unfold flushEffect
  split
  · exact h
  · split_ifs
    · exact h
    · exact h
    · exact h.flushWindow _

theorem setMonitor : EffectKeepsMonitors setMonitorEffect := by
  intro args s h
  unfold setMonitorEffect
  split
  · exact h
  · rename_i m x harg
    exact h.setMon m (lawful_of_monitorArg harg)

theorem releaseMonitor : EffectKeepsMonitors releaseMonitorEffect := by
  intro args s h
  unfold releaseMonitorEffect
  split
  · exact h
  · exact h.setMon _ (Monitor.lawful_released _)

theorem engineReset : EffectKeepsMonitors engineResetEffect := by
  intro args s _
  refine MonitorLaw.release ?_
  exact (MonitorLaw.engineResetBlocks s).of_lm rfl

/-- The other commands that write a register, or only reply by an index. -/
theorem registers : EffectKeepsMonitors setCorrectionEffect ∧ EffectKeepsMonitors popEventEffect ∧
    EffectKeepsMonitors setTimersEffect ∧ EffectKeepsMonitors queryWindowEffect := by
  refine ⟨fun args s h => h.of_lm ?_, fun args s h => h.of_lm ?_, fun args s h => h.of_lm ?_,
    fun args s h => h.of_lm ?_⟩
  · unfold setCorrectionEffect; split <;> rfl
  · unfold popEventEffect; split <;> rfl
  · unfold setTimersEffect; split <;> rfl
  · unfold queryWindowEffect; split <;> rfl

/-- Every command of the port (10.4). -/
theorem command (code : Byte) : EffectKeepsMonitors (commandEffect code) := by
  obtain ⟨hcorrection, hpop, htimers, hwindow⟩ := registers
  exact .ite (.reply _) <| .ite (.reply _) <| .ite stage <| .ite withdraw <| .ite flush <| .ite hwindow <|
    .ite (.reply _) <| .ite hcorrection <| .ite setMonitor <| .ite releaseMonitor <| .ite hpop <|
    .ite (.reply _) <| .ite htimers <| .ite engineReset (.reply _)

end EffectKeepsMonitors

namespace MonitorLaw

variable {s t : State}

/-- A transaction does what its command does, or nothing (R175). -/
theorem transact (h : MonitorLaw s) (code : Byte) (mdi : List Bool) :
    MonitorLaw (s.transact code mdi (commandEffect code)) := by
  have hreceived : MonitorLaw (s.receive code mdi).floatMdo := h.of_lm rfl
  unfold State.transact
  dsimp only
  cases judge (keptBytes code mdi)
  case run args => exact (EffectKeepsMonitors.command code args _ hreceived).of_lm rfl
  all_goals exact hreceived.of_lm rfl

theorem transaction (h : MonitorLaw s) (code : Byte) (mdi : List Bool) : MonitorLaw (s.transaction code mdi) := by
  unfold State.transaction
  split
  · exact h.of_lm rfl
  · exact h.transact code mdi

theorem shortPeriod (h : MonitorLaw s) (mdi : List Bool) : MonitorLaw (s.shortPeriod mdi) := by
  unfold State.shortPeriod
  split
  · exact h.of_lm rfl
  · exact h.transaction _ _

/-! ### Every step -/

theorem active (h : MonitorLaw s) {f : State → State} (hf : MonitorLaw s → MonitorLaw (f s)) :
    MonitorLaw (s.active f) := by
  unfold State.active
  split
  · exact hf h
  · exact h

theorem selected (h : MonitorLaw s) {f : State → State} (hf : MonitorLaw s → MonitorLaw (f s)) :
    MonitorLaw (s.selected f) := by
  unfold State.selected
  split
  · exact h.of_lm rfl
  · exact h.active hf

/-- A row of the port that runs the command of `code`. -/
theorem command (h : MonitorLaw s) (code : Byte) (mdi : List Bool) :
    MonitorLaw (s.selected (·.transact code mdi (commandEffect code))) :=
  h.selected fun hs => hs.transact code mdi

theorem takeRst (s : State) : MonitorLaw s.takeRst := by
  unfold State.takeRst
  split <;> exact resetBlocks s _

theorem execRstAssert (h : MonitorLaw s) (low : Nat) (ht : execRstAssert low s = .next t) : MonitorLaw t := by
  unfold Machine.execRstAssert at ht
  dsimp only at ht
  split_ifs at ht <;> cases ht
  · exact takeRst s
  · exact takeRst _
  · exact h.of_lm rfl

theorem releaseReset (h : MonitorLaw s) : MonitorLaw s.releaseReset := by
  unfold State.releaseReset
  split
  · exact h
  · exact resetBlocks s _
  · exact h

theorem tick (h : MonitorLaw s) : MonitorLaw s.tick := by
  unfold State.tick
  split <;> exact h.of_lm rfl

theorem execResponseRead (h : MonitorLaw s) (p : ReadPeriod) (ht : execResponseRead p s = .next t) : MonitorLaw t := by
  cases p <;> cases ht
  · exact h.selected fun hs => hs.of_lm rfl
  · exact h.selected fun hs => hs.shortPeriod _
  · unfold State.beginPeriod
    split <;> exact h.of_lm rfl

/-- Every command keeps the law. -/
theorem exec (h : MonitorLaw s) (c : Instr) (ht : exec c s = .next t) : MonitorLaw t := by
  cases c
  case rstAssert low => exact h.execRstAssert low ht
  case responseRead p => exact h.execResponseRead p ht
  all_goals cases ht
  case ingressRequest => exact h.active fun hs => hs.present _
  case holdTimerExpiry => exact h.active holdExpiry
  case idleExpiry window slot => exact h.active fun hs => hs.idleExpiry window slot
  case commitEntry => exact h.active commitEntry
  case ingressEntry => exact h.active ingressEntry
  case issue ready => exact h.active fun hs => hs.issue ready
  case egressResponse status data => exact h.active fun hs => hs.memoryResponse status data
  case responseTimeout => exact h.active responseExpiry
  case deliverResponse => exact h.active deliver
  case drainTimerExpiry => exact h.active drainExpiry
  case unknownCommand code mdi => exact h.selected fun hs => hs.transaction code mdi
  case timebaseTick => exact h.tick
  case powerOnReset => exact resetBlocks s _
  case resetRelease => exact h.releaseReset
  case ident mdi => exact h.command 0x01 mdi
  case readTime mdi => exact h.command 0x02 mdi
  case stage mdi => exact h.command 0x10 mdi
  case withdraw mdi => exact h.command 0x11 mdi
  case flush mdi => exact h.command 0x12 mdi
  case queryWindow mdi => exact h.command 0x13 mdi
  case queryPool mdi => exact h.command 0x14 mdi
  case setCorrection mdi => exact h.command 0x20 mdi
  case setMonitor mdi => exact h.command 0x21 mdi
  case releaseMonitor mdi => exact h.command 0x22 mdi
  case popEvent mdi => exact h.command 0x30 mdi
  case eventStatus mdi => exact h.command 0x31 mdi
  case setTimers mdi => exact h.command 0x40 mdi
  case engineReset mdi => exact h.command 0x41 mdi

end MonitorLaw

/-- Settles O60: each row keeps the law, since every operation that writes a monitor does. -/
theorem monitorLawKept : Obligations.MonitorLawKept := by
  unfold Obligations.MonitorLawKept
  intro s t h ht
  unfold step at ht
  split at ht
  · cases ht
    exact h
  · rename_i c rest _
    have hrest : MonitorLaw { s with pending := rest } := h.of_lm rfl
    exact hrest.exec c ht

end Sys2Proof.Machine

/-! PROOF. The head of the Commit List (R105, R120): no event makes a slot unread but a grant, a KEEP run ends at a head
that waits, and every event that grants, or adds to the list, ends with one. -/

namespace Sys2Proof.Machine

/-! ### Slots that are read -/

/-- From `s` to `t` no slot becomes unread. -/
def State.UnreadFalls (s t : State) : Prop := ∀ k, (t.slotAt k).unread = true → (s.slotAt k).unread = true

namespace State.UnreadFalls

variable {s t u : State}

theorem of_ct (h : t.ct = s.ct) : s.UnreadFalls t := fun k hk => by rwa [State.slotAt, h] at hk

theorem refl (s : State) : s.UnreadFalls s := fun _ h => h

theorem trans (h : s.UnreadFalls t) (g : t.UnreadFalls u) : s.UnreadFalls u := fun k hk => h k (g k hk)

/-- A slot that is marked read (R108, R112). -/
theorem setSlot (s : State) (i : Nat) (q : BitVec 8) : s.UnreadFalls (s.setSlot i ⟨q, false⟩) := by
  intro k hk
  rw [State.slotAt_setSlot] at hk
  split at hk
  · cases hk
  · exact hk

/-- Consumption (R108). -/
theorem consume (s : State) (l : List Nat) : s.UnreadFalls (s.consume l) := by
  unfold State.consume
  induction l generalizing s with
  | nil => exact refl s
  | cons i l ih => exact (setSlot s i _).trans (ih _)

theorem grantIngress (s : State) (o : Offer) : s.UnreadFalls (s.grantIngress o) := by
  unfold State.grantIngress
  dsimp only
  split
  · exact consume (s.setQueue _) _
  · exact refl s

/-- A failed COMMIT entry (R111, R112). -/
theorem commitFailure (s : State) (l : CommitLink) : s.UnreadFalls (s.commitFailure l) := by
  unfold State.commitFailure
  split
  · exact setSlot s l.index _
  · exact refl s

theorem commitError (s : State) (l : CommitLink) (aux : Nat) : s.UnreadFalls (s.commitError l aux) :=
  commitFailure (s.record ..) l

theorem issuePoints (s : State) : s.UnreadFalls s.issuePoints :=
  State.issuePoints_induct s.UnreadFalls (fun t _ l _ _ _ h => h.trans (commitError (t.setQueue _) l 2)) s (refl s)

theorem completeEntry (s : State) (e : EgressEntry) (st : LinkStatus) (d : Lanes) :
    s.UnreadFalls (s.completeEntry e st d) := by
  unfold State.completeEntry
  dsimp only
  split
  · split <;> exact refl s
  · exact refl s
  · split
    · exact refl s
    · exact commitError (s.setQueue _) _ 1

theorem timeoutEntry (s : State) (e : EgressEntry) : s.UnreadFalls (s.timeoutEntry e) := by
  unfold State.timeoutEntry
  dsimp only
  split
  · exact refl s
  · exact refl s
  · exact commitFailure (State.record ..) _

theorem startTimer (s : State) : s.UnreadFalls s.startTimer :=
  State.startTimer_induct s.UnreadFalls (fun t e _ h => h.trans (timeoutEntry t e)) (fun _ _ h => h) s (refl s)

theorem send (s : State) (e : EgressEntry) : s.UnreadFalls (s.send e) := by
  unfold State.send
  dsimp only
  split
  · exact startTimer { s.setQueue _ with pins := _ }
  · exact refl s

/-- Slots that are reset (R100, R114). -/
theorem resetSlots (s : State) (p : Nat → Bool) : s.UnreadFalls (s.resetSlots p) := by
  intro k hk
  by_cases h : k < 1024
  · rw [State.slotAt_resetSlots s p k h] at hk
    split at hk
    · cases hk
    · exact hk
  · simp [State.slotAt, h, SlotStatus.fresh] at hk

end State.UnreadFalls

/-- A waiting head goes on waiting while the list, the COMMITTING contexts and their windows' programs stay, and slots
are only read. -/
theorem HeadWaits.of_unreadFalls {s t : State} (h : HeadWaits s) (hl : t.ae.commitList = s.ae.commitList)
    (hc : t.ctx = s.ctx) (hf : ∀ w, s.holdsContexts w = true → (t.win w).fields = (s.win w).fields)
    (hu : s.UnreadFalls t) : HeadWaits t := by
  rcases h with h | ⟨⟨i, c⟩, hp⟩
  · exact .of_nil (hl.trans h)
  · obtain ⟨rest, hi, hci, hk⟩ := State.commitCandidate_some hp
    have hheld : s.holdsContexts c.acc.window = true :=
      (s.holdsContexts_iff _).2 ⟨i, by simp [hci, Context.inWindow, Context.acc?]⟩
    refine .of_head (hl.trans hi) ((congrFun hc i).trans hci) ?_
    rw [State.keepHit_eq_false_iff] at hk ⊢
    rw [hf _ hheld]
    exact hk.imp_right fun hread => Bool.eq_false_iff.2 fun ht => by simp [hu _ ht] at hread

/-! ### What the head rests on -/

/-- What HeadWaits rests on: the pool laws (R39, R46), and a DISABLED window holding no context (R25). -/
def CommitHeadBase (s : State) : Prop := PoolLaw s ∧ ∀ w, (s.win w).decodes = false → s.holdsContexts w = false

theorem commitHeadLaw_iff (s : State) : CommitHeadLaw s ↔ HeadWaits s ∧ CommitHeadBase s := Iff.rfl

/-- With the windows' states as they were, a DISABLED window is given no context (R25). -/
theorem holds_none_of_contexts {s t : State} (h : ∀ w, (s.win w).decodes = false → s.holdsContexts w = false)
    (hs : t.shape = s.shape)
    (hin : ∀ w, t.holdsContexts w = true → s.holdsContexts w = true ∨ (s.win w).decodes = true) (w : Fin 16)
    (hw : (t.win w).decodes = false) : t.holdsContexts w = false := by
  rw [State.decodes_of_shape hs] at hw
  by_contra hn
  rcases hin w (by simpa using hn) with hheld | hd
  · simp [h w hw] at hheld
  · simp [hw] at hd

/-- Every change keeps a DISABLED window without contexts (R25). -/
theorem holds_none_of_move {s t : State} (hm : State.PoolMove s t)
    (h : ∀ w, (s.win w).decodes = false → s.holdsContexts w = false) :
    ∀ w, (t.win w).decodes = false → t.holdsContexts w = false := by
  have hsame (hc : ∀ i w, (t.ctx i).inWindow w = true → (s.ctx i).inWindow w = true) (w : Fin 16)
      (hw : t.holdsContexts w = true) : s.holdsContexts w = true ∨ (s.win w).decodes = true := by
    obtain ⟨i, hi⟩ := (t.holdsContexts_iff w).1 hw
    exact Or.inl ((s.holdsContexts_iff w).2 ⟨i, hc i w hi⟩)
  cases hm with
  | frame hp _ hs _ => exact holds_none_of_contexts h hs (hsame fun i w hi => by rwa [State.ctx_of_pool hp] at hi)
  | freed hc _ hs _ =>
    refine holds_none_of_contexts h hs (hsame fun i w hi => ?_)
    rcases hc i with hc | hc <;> rw [hc] at hi
    · exact hi
    · cases hi
  | joined i c ha hp _ hs _ =>
    refine holds_none_of_contexts h hs (hsame fun j w hj => ?_)
    rw [State.ctx_of_set hp] at hj
    split at hj
    · rename_i hij
      rw [← hij, ha]
      exact hj
    · exact hj
  | absorbed w l hn hd hr =>
    have hcarries := s.absorb_carries w l hd hr
    exact holds_none_of_contexts h hcarries.shape hcarries.holds
  | applied p rest route hq hn =>
    intro v hv
    have hempty : s.holdsContexts p.window = false := hn.elim (h p.window) id
    rw [State.holdsContexts_of_pool (s := s) (by simp)]
    rw [State.win_applyProgram] at hv
    split at hv
    · rename_i hpv; rwa [← hpv]
    · exact h v hv
  | restated w x hw hx =>
    refine fun v hv => h v ?_
    rw [State.win_setWinState] at hv
    split at hv
    · rw [(Window.decodes_iff { s.win w with state := x }).2 hx] at hv
      cases hv
    · exact hv
  | cleared hf _ _ _ => exact fun w _ => (t.holdsContexts_false_iff w).2 fun i => by rw [hf]; rfl

theorem CommitHeadBase.moves {s t : State} (h : CommitHeadBase s) (hm : PoolMoves s t) : CommitHeadBase t :=
  hm.keeps (fun _ _ hm h => ⟨h.1.move hm, holds_none_of_move hm h.2⟩) h

/-- An event that leaves the pool, the Commit List and the programs, and only reads slots. -/
theorem CommitHeadLaw.of_frame {s t : State} (h : CommitHeadLaw s) (hp : t.ae.pool = s.ae.pool)
    (hl : t.ae.commitList = s.ae.commitList) (hs : t.shape = s.shape) (hu : s.UnreadFalls t) : CommitHeadLaw t := by
  obtain ⟨hhead, hbase⟩ := (commitHeadLaw_iff s).1 h
  have ht : CommitHeadBase { t with pa := s.pa } := hbase.moves (.of_frame hp hl hs rfl)
  exact ⟨hhead.of_unreadFalls hl (State.ctx_of_pool hp) (fun w _ => State.fields_of_shape hs w) hu, ht⟩

theorem CommitHeadLaw.of_same {s t : State} (h : CommitHeadLaw s) (hw : t.wt = s.wt) (ha : t.ae = s.ae)
    (hu : s.UnreadFalls t) : CommitHeadLaw t :=
  h.of_frame (by rw [ha]) (by rw [ha]) (State.shape_of_wt _ _ hw) hu

/-! ### The KEEP run -/

/-- Every member of the Commit List is COMMITTING (R46). -/
theorem CommitListLaw.committing {s : State} (h : CommitListLaw s) {i : Fin 64} (hi : i ∈ s.ae.commitList) :
    ∃ c, s.ctx i = .committing c := by
  have hc := (h.2 i).1 hi
  cases hx : s.ctx i with
  | free => simp [hx, Context.isCommitting] at hc
  | opened a => simp [hx, Context.isCommitting] at hc
  | committing c => exact ⟨c, rfl⟩

/-- As many tests as the list is long discard its head until one waits (R105). -/
theorem keepTests_headWaits {n : Nat} {s : State} (h : PoolLaw s) (hn : s.ae.commitList.length ≤ n) :
    HeadWaits (keepTests n s) := by
  induction n generalizing s with
  | zero => exact .of_nil (List.length_eq_zero_iff.1 (Nat.le_zero.1 hn))
  | succ n ih =>
    cases hl : s.ae.commitList with
    | nil =>
      have hhead := HeadWaits.of_nil hl
      rwa [keepTests_of_headWaits _ hhead]
    | cons i rest =>
      obtain ⟨c, hc⟩ := h.1.committing (i := i) (by simp [hl])
      cases hk : s.keepHit c with
      | false =>
        have hhead := HeadWaits.of_head hl hc hk
        rwa [keepTests_of_headWaits _ hhead]
      | true =>
        have htest : s.keepTest = (s.setCommitList rest).keepDiscard i c := by simp [State.keepTest, hl, hc, hk]
        rw [keepTests, htest]
        refine ih ((State.keepDiscard_poolMoves c hl).keeps (fun _ _ hm h => h.move hm) h) ?_
        simpa [hl] using hn

/-- The cut-over, before its KEEP run, frees the window's contexts and takes them off the Commit List (R61, R148). -/
theorem State.cut_poolMoves (s : State) (w : Fin 16) : PoolMoves s (s.cut w) := by
  refine .of_move (.freed (fun i => ?_) (fun hlist => ?_) (by simp) (by simp))
  · rw [State.ctx_cut]
    split
    · exact Or.inr rfl
    · exact Or.inl rfl
  · have hcut : (s.cut w).ae.commitList = s.ae.commitList.filter (fun i => !(s.ctx i).inWindow w) := by simp
    rw [hcut]
    refine List.filter_congr fun i hi => ?_
    have hci := (hlist.2 i).1 hi
    rw [State.ctx_cut]
    by_cases hw : (s.ctx i).inWindow w = true
    · simp [hw, Context.isCommitting]
    · simp [hw, hci]

namespace CommitHeadBase

variable {s : State}

theorem keepRun (h : CommitHeadBase s) : CommitHeadLaw s.keepRun :=
  ⟨keepTests_headWaits h.1 (Nat.le_refl _), h.moves s.keepRun_poolMoves⟩

/-- The cut-over ends in a KEEP run (R61, R148). -/
theorem cutOver (h : CommitHeadBase s) (w : Fin 16) : CommitHeadLaw (s.cutOver w) := by
  rw [State.cutOver_eq]
  exact (h.moves (s.cut_poolMoves w)).keepRun

end CommitHeadBase

namespace CommitHeadLaw

variable {s : State}

theorem base (h : CommitHeadLaw s) : CommitHeadBase s := h.2

/-! ### Programs

An operation that touches neither the pool, the list, the windows nor the Slot Status Memory keeps the law as it stands:
in such a case `h` itself is the proof. -/

/-- A window's state is no part of the head's test (R105). -/
theorem setWinState (h : CommitHeadLaw s) {w : Fin 16} {x : WState} (hw : (s.win w).decodes = true)
    (hx : x ≠ .disabled) : CommitHeadLaw (s.setWinState w x) := by
  refine ⟨h.1.of_unreadFalls rfl rfl (fun v _ => ?_) (.refl s), h.base.moves (.of_move (.restated w x hw hx))⟩
  rw [State.win_setWinState]
  split
  · rename_i hv; rw [← hv]
  · rfl

theorem rejectProgram (h : CommitHeadLaw s) {p : Program} {rest : List Program} (cause : Nat) (v : Fin 16)
    (hq : s.pa.stage = p :: rest) : CommitHeadLaw (s.rejectProgram p rest cause v) := by
  refine ⟨h.1.of_unreadFalls (by simp) (State.ctx_of_pool (by simp)) (fun y _ => ?_) (.of_ct (by simp)),
    h.base.moves (s.rejectProgram_poolMoves p rest cause v hq)⟩
  rw [State.win_rejectProgram]
  split
  · rename_i hy; rw [← hy]
  · rfl

/-- An apply is to a window without contexts, so not to the head's (R28, R151). -/
theorem applyProgram (h : CommitHeadLaw s) {p : Program} {rest : List Program} (route : Nat)
    (hq : s.pa.stage = p :: rest) (hn : (s.win p.window).decodes = false ∨ s.holdsContexts p.window = false) :
    CommitHeadLaw (s.applyProgram p rest route) := by
  have hempty : s.holdsContexts p.window = false := hn.elim (h.base.2 p.window) id
  refine ⟨h.1.of_unreadFalls (by simp) (State.ctx_of_pool (by simp)) (fun v hv => ?_)
    ((State.UnreadFalls.resetSlots s (s.resetByApply p)).trans (.of_ct rfl)),
    h.base.moves (.of_move (.applied p rest route hq hn))⟩
  rw [State.win_applyProgram, if_neg]
  rintro rfl
  rw [hempty] at hv
  cases hv

theorem applyHead (h : CommitHeadLaw s) {p : Program} {rest : List Program} (route : Nat)
    (hq : s.pa.stage = p :: rest) (hn : (s.win p.window).decodes = false ∨ s.holdsContexts p.window = false) :
    CommitHeadLaw (s.applyHead p rest route) := by
  unfold State.applyHead
  split
  · exact h.rejectProgram _ _ hq
  · exact h.applyProgram route hq hn

/-- Head processing (R140): applies, a drain's start, and cut-overs. -/
theorem processHeads {l : List Program} (h : CommitHeadLaw (s.setStage l)) : CommitHeadLaw (processHeads l s) := by
  refine processHeads_induct CommitHeadLaw (fun t p rest hq hn ht => ht.applyHead 1 hq hn)
    (fun t p rest _ hd _ ht => ?_) (fun t p rest hq _ _ ht => ?_) l s h
  · exact ht.setWinState hd (x := .draining .normal) (by simp)
  · exact (ht.base.cutOver p.window).applyHead 4 (by simpa using hq) (Or.inr (t.cutOver_empties p.window))

theorem setStage (h : CommitHeadLaw s) (l : List Program) : CommitHeadLaw (s.setStage l) := h

/-- The end of a drain (R144 to R146). -/
theorem finishDrain (h : CommitHeadLaw s) : CommitHeadLaw s.finishDrain := by
  unfold State.finishDrain
  split
  · exact h
  · rename_i p rest hq
    split
    · rename_i hc
      obtain ⟨-, hn⟩ : (s.win p.window).state.isDraining = true ∧ s.holdsContexts p.window = false := by
        simpa using hc
      have ht : CommitHeadLaw (s.setDrainTimer none) := h
      exact ((ht.applyHead _ hq (Or.inr hn)).setStage rest).processHeads
    · exact h

/-! ### Requests -/

theorem spill (h : CommitHeadLaw s) (r : Request) (link : Nat) (w : Fin 16) (f k cause : Nat) :
    CommitHeadLaw (s.spill r link w f k cause) :=
  h.of_frame (by simp) (by simp) (by simp) (.of_ct (by simp))

/-- A sample write that is absorbed ends in a KEEP run and the end of a drain (R43, R105, R144). -/
theorem takeSamples (h : CommitHeadLaw s) (r : Request) (link : Nat) (d : Decoded) (kept : Option Timer)
    (hd : (s.win d.window).decodes = true) : CommitHeadLaw (s.takeSamples r link d kept) := by
  unfold State.takeSamples
  dsimp only
  split
  · rename_i ha
    have ht : CommitHeadBase ((s.setIntake .opened).rolReady link .ok []) := h.base
    refine (ht.moves (.of_move (.absorbed _ _ (nodup_samplesOf ..) hd ?_))).keepRun.finishDrain
    rw [State.countP_samplesOf]
    exact State.disposition_absorbed ha
  · exact h
  · exact h
  · exact h.spill ..

theorem classify (h : CommitHeadLaw s) (r : Request) (link : Nat) (kept : Option Timer) :
    CommitHeadLaw (s.classify r link kept) := by
  unfold State.classify
  split
  · exact h.of_same (by simp) (by simp) (.of_ct (by simp))
  · exact h.of_same (by simp) (by simp) (.of_ct (by simp))
  · exact h.of_same (by simp) (by simp) (.of_ct (by simp))
  · rename_i d hs
    exact h.takeSamples r link d kept (State.sort_sampleWrite_decodes hs)
  · exact h

theorem release (h : CommitHeadLaw s) : CommitHeadLaw s.release := by
  unfold State.release
  split
  · exact h
  · exact h
  · have ht : CommitHeadLaw (s.setHoldTimer none) := h
    exact ht.classify ..

end CommitHeadLaw

/-- An event that may have freed contexts ends with a head that waits (R48, R105, R144). -/
theorem CommitHeadBase.settle (before : State) {s : State} (h : CommitHeadBase s) :
    CommitHeadLaw (State.settle before s) := by
  unfold State.settle
  dsimp only
  split
  · exact h.keepRun.finishDrain.release
  · exact h.keepRun

/-! ### The rows -/

namespace CommitHeadLaw

variable {s : State}

theorem present (h : CommitHeadLaw s) (r : Request) : CommitHeadLaw (s.present r) := by
  unfold State.present
  split
  · unfold State.accept
    refine CommitHeadLaw.classify ?_ _ _ _
    exact h
  · exact h

theorem deliver (h : CommitHeadLaw s) : CommitHeadLaw s.deliver := by
  unfold State.deliver
  split
  · exact h
  · split
    · exact h
    · exact h

theorem holdExpiry (h : CommitHeadLaw s) : CommitHeadLaw s.holdExpiry := by
  have ht : CommitHeadLaw (s.setHoldTimer none) := h
  unfold State.holdExpiry
  split
  · split
    · exact ht.spill ..
    · exact h
  all_goals exact h

theorem idleExpiry (h : CommitHeadLaw s) (w : Fin 16) (slot : Nat) : CommitHeadLaw (s.idleExpiry w slot) := by
  unfold State.idleExpiry
  split
  · exact h
  · rename_i i _
    split
    · rename_i a ha
      split
      · exact (h.base.moves (s.idleEnd_poolMoves i a ha)).settle s
      · exact h
    all_goals exact h

theorem drainExpiry (h : CommitHeadLaw s) : CommitHeadLaw s.drainExpiry := by
  unfold State.drainExpiry
  split
  · rename_i p rest t _ _
    split
    · rename_i hc
      dsimp only
      generalize hu : (s.setDrainTimer none).record _ _ _ _ _ = u
      have hbase : CommitHeadBase u := hu ▸ h.base
      have hd : ((u.forceContexts p.window).win p.window).decodes = true := by
        rw [State.decodes_of_shape (u.forceContexts_carries p.window).shape, ← hu]
        exact Window.decodes_of_isDraining (by rw [State.record_win, State.setDrainTimer_win, hc.1]; rfl)
      exact ((hbase.moves (u.forceContexts_poolMoves p.window)).moves
        (.of_move (.restated p.window (.draining .forced) hd (by simp)))).settle s
    · exact h
  all_goals exact h

/-- A grant makes a slot unread, and the KEEP run that follows it tests the heads behind (R103, R105). -/
theorem commitEntry (h : CommitHeadLaw s) : CommitHeadLaw s.commitEntry := by
  unfold State.commitEntry
  split
  · exact h
  · rename_i i c hc
    split
    · obtain ⟨rest, hl, -, -⟩ := State.commitCandidate_some hc
      have hg := h.base.moves (State.grantCommit_poolMoves c hl)
      dsimp only
      split
      · exact (hg.moves (State.afterUnreachable_poolMoves _)).settle s
      · exact hg.settle s
    · exact h

theorem ingressEntry (h : CommitHeadLaw s) : CommitHeadLaw s.ingressEntry := by
  unfold State.ingressEntry
  split
  · exact h
  · exact h
  · split
    · exact h.of_same (by simp) (by simp) (.grantIngress s _)
    · exact h

theorem issue (h : CommitHeadLaw s) (ready : Bool) : CommitHeadLaw (s.issue ready) := by
  unfold State.issue
  split
  · exact h
  · rename_i e _
    obtain ⟨hw, ha⟩ := s.send_frame e
    split
    · exact h.of_same (by simp) (by simp) (.issuePoints s)
    · split
      · exact (h.of_same hw ha (.send s e)).of_same (by simp) (by simp) (.issuePoints _)
      · exact h

theorem memoryResponse (h : CommitHeadLaw s) (st : LinkStatus) (d : Lanes) : CommitHeadLaw (s.memoryResponse st d) := by
  unfold State.memoryResponse
  split
  · exact h
  · split
    · rename_i e _
      exact h.of_same (by simp) (by simp) ((State.UnreadFalls.completeEntry s e st d).trans (.startTimer _))
    · exact h

theorem responseExpiry (h : CommitHeadLaw s) : CommitHeadLaw s.responseExpiry := by
  unfold State.responseExpiry
  split
  · rename_i e _ _
    split
    · exact h.of_same (by simp) (by simp) ((State.UnreadFalls.timeoutEntry s _).trans (.startTimer _))
    · exact h
  all_goals exact h

theorem stageProgram (h : CommitHeadLaw s) (p : Program) : CommitHeadLaw (s.stageProgram p) := by
  unfold State.stageProgram
  split
  · exact (h.setStage [p]).processHeads.release
  · exact h

theorem withdrawAll (h : CommitHeadLaw s) (w : Fin 16) : CommitHeadLaw (s.withdrawAll w) := by
  unfold State.withdrawAll
  dsimp only
  split
  · exact h
  · split
    · refine (processHeads (setStage ?_ _)).release
      have ht : CommitHeadLaw (s.setDrainTimer none) := h
      split
      · rename_i hd
        exact ht.setWinState (Window.decodes_of_isDraining hd) (by simp)
      · exact h
    · exact h

theorem flushWindow (h : CommitHeadLaw s) (w : Fin 16) : CommitHeadLaw (s.flushWindow w) := by
  have hc := h.base.moves (s.completeAll_poolMoves (s.openInOrder w) true true)
  unfold State.flushWindow
  dsimp only
  split <;> exact CommitHeadBase.settle s hc

/-- With no context left the list is empty (R63, R64). -/
theorem of_empty {s t : State} (h : CommitHeadLaw s) (hm : PoolMoves s t) (hl : t.ae.commitList = []) :
    CommitHeadLaw t := ⟨.of_nil hl, h.base.moves hm⟩

end CommitHeadLaw

theorem rowRel_commitHeadLaw : RowRel fun s t => CommitHeadLaw s → CommitHeadLaw t where
  refl _ h := h
  trans h g hs := g (h hs)
  registers _ hw ha hct _ _ h := h.of_same hw ha (.of_ct hct)
  present _ r h := h.present r
  deliver _ h := h.deliver
  holdExpiry _ h := h.holdExpiry
  idleExpiry _ w slot h := h.idleExpiry w slot
  drainExpiry _ h := h.drainExpiry
  commitEntry _ h := h.commitEntry
  ingressEntry _ h := h.ingressEntry
  issue _ ready h := h.issue ready
  memoryResponse _ st d h := h.memoryResponse st d
  responseExpiry _ h := h.responseExpiry
  stage _ _ p _ _ h := h.stageProgram p
  withdraw _ w h := h.withdrawAll w
  flush _ w _ _ h := h.flushWindow w
  engineReset s h := h.of_empty s.engineResetBlocks_poolMoves rfl
  release _ h := h.release
  resetBlocks s hold h := h.of_empty (s.resetBlocks_poolMoves hold) rfl

/-- Settles O59: a grant makes a slot unread, a completion adds to the list, and a KEEP run follows either. -/
theorem commitHeadLawKept : Obligations.CommitHeadLawKept := by
  unfold Obligations.CommitHeadLawKept
  exact fun s t hs h => rowRel_commitHeadLaw.step h hs

end Sys2Proof.Machine

/-! PROOF. A context that leaves the Commit List: the KEEP discard of its head (R105), the grant of a commit (R103,
R104), and the flush counts that follow either (R59). -/

namespace Sys2Proof.Machine

/-! ### The flush counts when a context leaves (R59) -/

theorem State.flushOf_flushLeave (s : State) (w v : Fin 16) (mark entered : Bool) :
    (s.flushLeave w mark entered).flushOf v =
      if w = v ∧ mark = true ∧ 0 < (s.flushOf w).outstanding then
        ⟨(s.flushOf w).outstanding - 1, (s.flushOf w).entered + (if entered then 1 else 0)⟩
      else s.flushOf v := by
  unfold State.flushLeave
  by_cases hc : mark = true ∧ 0 < (s.flushOf w).outstanding
  · have hset (x : FlushCounts) : (s.setFlush w x).flushOf v = if w = v then x else s.flushOf v :=
      s.flushOf_setFlush w v x
    simp only [Bool.and_eq_true, decide_eq_true_eq, if_pos hc, and_iff_left hc]
    rw [← hset]
    split <;> rfl
  · rw [if_neg (by simpa using hc), if_neg fun h => hc h.2]

/-- FLUSH_DONE when a marked context is the last that the flush waits for (R59); the queue and the time may be read from
another state. -/
theorem State.evq_flushLeave {s u : State} (he : s.evq = u.evq) (ht : s.mp.timebase = u.mp.timebase) (w : Fin 16)
    (mark entered : Bool) : (s.flushLeave w mark entered).evq =
      (if mark = true ∧ (s.flushOf w).outstanding = 1 then
        u.record .flushDone (some w) none (BitVec.ofNat 32 ((s.flushOf w).entered + (if entered then 1 else 0))) 0
      else u).evq := by
  unfold State.flushLeave
  dsimp only
  by_cases hc : mark = true ∧ 0 < (s.flushOf w).outstanding
  · rw [if_pos (by simpa using hc)]
    by_cases ho : (s.flushOf w).outstanding = 1
    · have hlast : (s.flushOf w).outstanding - 1 = 0 := by omega
      rw [if_pos hlast, if_pos (And.intro hc.1 ho)]
      exact State.record_evq_congr (s := u) (t := s.setFlush w _) he ht ..
    · have hmore : (s.flushOf w).outstanding - 1 ≠ 0 := by omega
      rw [if_neg hmore, if_neg fun h : mark = true ∧ _ => ho h.2]
      exact he
  · have hnot : ¬(mark = true ∧ (s.flushOf w).outstanding = 1) := fun h => hc ⟨h.1, by omega⟩
    rw [if_neg (by simpa using hc), if_neg hnot]
    exact he

/-! ### The KEEP discard (R105) -/

/-- A completed context as if no FLUSH had marked it (R58). -/
def Completed.unmarked (c : Completed) : Completed := { c with flushMark := false }

section
variable (s : State) (i : Fin 64) (c : Completed)

/-- A discard is that of an unmarked record, and then the flush counts follow (R59; log 9). -/
theorem State.keepDiscard_eq_flushLeave :
    s.keepDiscard i c = (s.keepDiscard i c.unmarked).flushLeave c.acc.window c.flushMark false := rfl

variable (l : List (Fin 64))

theorem State.ctx_keepDiscard (k : Fin 64) :
    ((s.setCommitList l).keepDiscard i c).ctx k = if i = k then .free else s.ctx k := by
  have hp : ((s.setCommitList l).keepDiscard i c).ae.pool = s.ae.pool.set i.val .free := by simp [State.keepDiscard]
  exact State.ctx_of_set hp k

/-- A discard counts an overrun and drops the samples of its context (R34, R105). -/
theorem State.win_keepDiscard (v : Fin 16) : ((s.setCommitList l).keepDiscard i c).win v =
    if c.acc.window = v then { s.win c.acc.window with counters := { (s.win c.acc.window).counters with
      overruns := (s.win c.acc.window).counters.overruns + 1
      dropped := (s.win c.acc.window).counters.dropped + BitVec.ofNat 32 c.acc.count } }
    else s.win v := by
  have hw : ((s.setCommitList l).keepDiscard i c).win =
      ((s.count c.acc.window (fun x => { x with overruns := x.overruns + 1 })).drop c.acc.window c.acc.count).win := by
    funext y
    simp only [State.keepDiscard, State.win, State.flushLeave_frame, State.record_wt, State.setCtx_wt]
    rfl
  rw [hw, State.drop, State.win_count, State.win_count, State.win_count, if_pos rfl]
  split <;> rfl

theorem State.flushOf_keepDiscard (v : Fin 16) : ((s.setCommitList l).keepDiscard i c).flushOf v =
    if c.acc.window = v ∧ c.flushMark = true ∧ 0 < (s.flushOf c.acc.window).outstanding then
      ⟨(s.flushOf c.acc.window).outstanding - 1, (s.flushOf c.acc.window).entered⟩
    else s.flushOf v :=
  State.flushOf_flushLeave ((s.setCommitList l).keepDiscard i c.unmarked) c.acc.window v c.flushMark false

/-- OVERRUN_KEPT with the slot's current seq, and then FLUSH_DONE when the discard ends a flush (R59, R105; log 9). -/
theorem State.evq_keepDiscard :
    let u := s.record .overrunKept (some c.acc.window) (some c.acc.slot)
      ((s.slotAt ((s.win c.acc.window).fields.slotBase.toNat + c.acc.slot)).seq.setWidth 32) 0
    ((s.setCommitList l).keepDiscard i c).evq =
      (if c.flushMark = true ∧ (s.flushOf c.acc.window).outstanding = 1 then
        u.record .flushDone (some c.acc.window) none (BitVec.ofNat 32 (s.flushOf c.acc.window).entered) 0
      else u).evq := by
  intro u
  exact State.evq_flushLeave (s := (s.setCommitList l).keepDiscard i c.unmarked) (u := u) rfl rfl c.acc.window
    c.flushMark false

end

/-- A head that KEEP discards leaves, and the run goes on with the next (R105). -/
theorem State.keepRun_of_discard {s : State} {i : Fin 64} {rest : List (Fin 64)} {c : Completed}
    (hl : s.ae.commitList = i :: rest) (hc : s.ctx i = .committing c) (hk : s.keepHit c = true) :
    s.keepRun = ((s.setCommitList rest).keepDiscard i c).keepRun := by
  have htest : s.keepTest = (s.setCommitList rest).keepDiscard i c := by simp [State.keepTest, hl, hc, hk]
  have hrest : ((s.setCommitList rest).keepDiscard i c).ae.commitList = rest := by simp
  rw [State.keepRun, hl, List.length_cons, keepTests, htest, State.keepRun, hrest]

/-- Settles O41: the first test of the run discards the head, and the rest of the run is the run of what is left. -/
theorem keepDiscardsTheHead : Obligations.KeepDiscardsTheHead := by
  unfold Obligations.KeepDiscardsTheHead
  intro s i rest c hl hc hkeep w slot f u hunread
  have hhit : s.keepHit c = true := Bool.and_eq_true_iff.2 ⟨decide_eq_true hkeep, hunread⟩
  have hctx := s.ctx_keepDiscard i c rest
  have hwin := s.win_keepDiscard i c rest
  have hflush := s.flushOf_keepDiscard i c rest
  have hevq : ((s.setCommitList rest).keepDiscard i c).evq = (if c.flushMark = true ∧ f.outstanding = 1 then
      u.record .flushDone (some w) none (BitVec.ofNat 32 f.entered) 0 else u).evq :=
    s.evq_keepDiscard i c rest
  have hnone (hf : c.flushMark = false ∨ f.outstanding = 0) : ¬(c.flushMark = true ∧ 0 < f.outstanding) := by
    rintro ⟨hm, ho⟩
    rcases hf with hf | hf
    · exact Bool.false_ne_true (hf.symm.trans hm)
    · omega
  refine ⟨(s.setCommitList rest).keepDiscard i c, State.keepRun_of_discard hl hc hhit, by simp, ?_, fun k hk => ?_,
    ?_, fun v hv => ?_, by simp, by simp, by simp, fun v hv => ?_, fun hf => ⟨?_, ?_⟩, fun hm ho => ⟨?_, ?_⟩,
    fun hm ho => ⟨?_, ?_⟩⟩
  · rw [hctx, if_pos rfl]
  · rw [hctx, if_neg (Ne.symm hk)]
  · rw [hwin, if_pos rfl]
  · rw [hwin, if_neg (Ne.symm hv)]
  · rw [hflush, if_neg fun h => hv h.1.symm]
  · exact (hflush w).trans (if_neg fun h => hnone hf h.2)
  · rw [hevq, if_neg]
    rintro ⟨hm, ho⟩
    exact hnone hf ⟨hm, by omega⟩
  · exact (hflush w).trans (if_pos ⟨rfl, hm, Nat.lt_of_succ_lt ho⟩)
  · rw [hevq, if_neg fun h => Nat.ne_of_gt ho h.2]
  · have hpos : 0 < f.outstanding := by omega
    have hlast : f.outstanding - 1 = 0 := by omega
    exact ((hflush w).trans (if_pos ⟨rfl, hm, hpos⟩)).trans (congrArg (FlushCounts.mk · f.entered) hlast)
  · rw [hevq, if_pos ⟨hm, ho⟩]

/-! ### The grant of a commit (R103, R104) -/

section
variable (s : State) (i : Fin 64) (c : Completed)

/-- A grant is that of an unmarked record, and then the flush counts follow (R59; log 9). -/
theorem State.grantCommit_eq_flushLeave :
    s.grantCommit i c = (s.grantCommit i c.unmarked).flushLeave c.acc.window c.flushMark true := rfl

/-- seq and unread of the record's slot (R103). -/
theorem State.slotAt_grantCommit (k : Nat) :
    let index := (s.win c.acc.window).fields.slotBase.toNat + c.acc.slot
    (s.grantCommit i c).slotAt k =
      if index = k ∧ index < 1024 then ⟨(s.slotAt index).seq + 1, true⟩ else s.slotAt k := by
  intro index
  obtain ⟨hslot, -, -⟩ := s.grantCommit_writes i (c := c.unmarked) rfl
  have hct : (s.grantCommit i c).ct = (s.grantCommit i c.unmarked).ct := by
    rw [State.grantCommit_eq_flushLeave]
    simp
  rw [State.slotAt, hct]
  exact hslot k

/-- The COMMIT entry joins the tail of the Egress Queue (R118, R123). -/
theorem State.grantCommit_eg :
    let index := (s.win c.acc.window).fields.slotBase.toNat + c.acc.slot
    (s.grantCommit i c).eg = { s.eg with
      queue := s.eg.queue ++ [c.entry ((s.slotAt index).seq + 1) index (s.slotAt index).unread] } := by
  intro index
  obtain ⟨-, heg, -⟩ := s.grantCommit_writes i (c := c.unmarked) rfl
  have hleave : (s.grantCommit i c).eg = (s.grantCommit i c.unmarked).eg := by
    rw [State.grantCommit_eq_flushLeave]
    simp
  exact hleave.trans heg

/-- The counters of the record's window (R33, R103, R104). -/
theorem State.win_grantCommit (v : Fin 16) :
    let w := c.acc.window
    (s.grantCommit i c).win v = if w = v then { s.win w with counters := { (s.win w).counters with
      overruns := (s.win w).counters.overruns +
        (if (s.slotAt ((s.win w).fields.slotBase.toNat + c.acc.slot)).unread then 1 else 0)
      committedRecords := (s.win w).counters.committedRecords + 1
      committedSamples := (s.win w).counters.committedSamples + BitVec.ofNat 32 c.acc.count } } else s.win v := by
  intro w
  have hw : (s.grantCommit i c).win = (s.count w (fun x =>
      { x with
        overruns := if (s.slotAt (s.slotIndex w c.acc.slot)).unread then x.overruns + 1 else x.overruns
        committedRecords := x.committedRecords + 1
        committedSamples := x.committedSamples + BitVec.ofNat 32 c.acc.count })).win := by
    funext y
    unfold State.grantCommit
    dsimp only
    split <;> simp [State.win, w]
  have hover (b : Bool) (x : BitVec 32) : (if b then x + 1 else x) = x + (if b then 1 else 0) := by cases b <;> simp
  rw [hw, State.win_count]
  simp only [hover]
  rfl

theorem State.flushOf_grantCommit (v : Fin 16) : (s.grantCommit i c).flushOf v =
    if c.acc.window = v ∧ c.flushMark = true ∧ 0 < (s.flushOf c.acc.window).outstanding then
      ⟨(s.flushOf c.acc.window).outstanding - 1, (s.flushOf c.acc.window).entered + 1⟩
    else s.flushOf v := by
  have hsame : (s.grantCommit i c.unmarked).flushOf = s.flushOf := by
    unfold State.grantCommit
    dsimp only
    split <;> rfl
  rw [State.grantCommit_eq_flushLeave, State.flushOf_flushLeave, hsame]
  rfl

/-- OVERRUN_REPLACED on an overrun, and then FLUSH_DONE when the grant ends a flush (R59, R104; log 9). -/
theorem State.evq_grantCommit :
    let w := c.acc.window
    let index := (s.win w).fields.slotBase.toNat + c.acc.slot
    let u := if (s.slotAt index).unread then
      s.record .overrunReplaced (some w) (some c.acc.slot) (((s.slotAt index).seq + 1).setWidth 32) 0 else s
    (s.grantCommit i c).evq = (if c.flushMark = true ∧ (s.flushOf w).outstanding = 1 then
      u.record .flushDone (some w) none (BitVec.ofNat 32 ((s.flushOf w).entered + 1)) 0 else u).evq := by
  intro w index u
  obtain ⟨-, -, hevq⟩ := s.grantCommit_writes i (c := c.unmarked) rfl
  have htime : (s.grantCommit i c.unmarked).mp.timebase = u.mp.timebase := by
    have hu : u.mp = s.mp := by
      simp only [u]
      split <;> rfl
    simp [hu]
  have hflush : (s.grantCommit i c.unmarked).flushOf w = s.flushOf w := by
    simp [State.flushOf_grantCommit, Completed.unmarked]
  rw [State.grantCommit_eq_flushLeave, State.evq_flushLeave (u := u) hevq htime, hflush]
  rfl

end

/-- After a grant the next head waits when KEEP does not discard it: its own slot is not the one granted, or its window
replaces (R104, R105). -/
theorem HeadWaits.grantCommit {s : State} {i : Fin 64} {rest : List (Fin 64)} (c : Completed) (hlist : CommitListLaw s)
    (hl : s.ae.commitList = i :: rest)
    (hnext : ∀ j tail, rest = j :: tail → ∀ d, s.ctx j = .committing d →
      (s.win d.acc.window).fields.overrun = .replace ∨
      ((s.win d.acc.window).fields.slotBase.toNat + d.acc.slot ≠
          (s.win c.acc.window).fields.slotBase.toNat + c.acc.slot ∧
        (s.slotAt ((s.win d.acc.window).fields.slotBase.toNat + d.acc.slot)).unread = false)) :
    HeadWaits (s.grantCommit i c) := by
  obtain ⟨hpool, htail⟩ := s.grantCommit_ae i c
  rw [hl, List.tail_cons] at htail
  cases rest with
  | nil => exact .of_nil htail
  | cons j tail =>
    have hij : i ≠ j := by
      obtain ⟨hnodup, -⟩ := hlist
      rw [hl] at hnodup
      exact fun h => (List.nodup_cons.1 hnodup).1 (by simp [h])
    obtain ⟨d, hd⟩ := hlist.committing (i := j) (by simp [hl])
    refine .of_head htail (c := d) ((State.ctx_of_set hpool j).trans ((if_neg hij).trans hd)) ?_
    rw [State.keepHit_eq_false_iff, State.fields_of_shape (s := s) (by simp), State.slotAt_grantCommit]
    rcases hnext j tail rfl d hd with hreplace | ⟨hne, hread⟩
    · exact Or.inl hreplace
    · exact Or.inr (by rw [if_neg fun h => hne h.1.symm, hread])

/-- The COMMIT entry of a reachable record, with REPLACED set on an overrun (R104, R118). -/
theorem Completed.entry_of_reachable {c : Completed} (h : c.unreachable = false) (seq : BitVec 8) (index : Nat)
    (overrun : Bool) : c.entry seq index overrun =
      ⟨.commit ⟨c.acc.window, c.acc.slot, seq, index, false, false⟩, c.commitAddress, 8,
        recordBytes (c.entryRecord overrun) seq, List.replicate 8 true, none⟩ := by
  simp [Completed.entry, h]

/-- Settles O40: the grant's own changes, field by field; the event ends there, since the next head waits. -/
theorem commitEntryCarriesTheRecord : Obligations.CommitEntryCarriesTheRecord := by
  unfold Obligations.CommitEntryCarriesTheRecord
  intro s i rest c hr hlist hheld hs hq hl hc hu w idx seq overran hidx hpolicy hnext f done u
  have hkeep : s.keepHit c = false := (s.keepHit_eq_false_iff c).2 hpolicy
  have hsettle : State.settle s (s.grantCommit i c) = s.grantCommit i c :=
    State.settle_of_quiet (HeadWaits.grantCommit c hlist hl hnext) (by simpa using hs)
      fun h hh => hheld h (by simpa using hh)
  have hexec : exec .commitEntry s = .next (s.grantCommit i c) := by
    show Host.Outcome.next (s.active State.commitEntry) = _
    rw [State.active_running hr, State.commitEntry_of_head hl hc hkeep hq hu, hsettle]
  obtain ⟨hpool, htail⟩ := s.grantCommit_ae i c
  have hctx := State.ctx_of_set hpool
  have hslot := s.slotAt_grantCommit i c
  have hwin := s.win_grantCommit i c
  have hflush := s.flushOf_grantCommit i c
  have hdone : done = true ↔ c.flushMark = true ∧ f.outstanding = 1 := by simp [done]
  refine ⟨s.grantCommit i c, hexec, ?_, fun k hk => ?_, ?_, ?_, fun k hk => ?_, ?_, ?_, fun v hv => ?_, ?_,
    fun v hv => ?_, ?_, by simp, by simp, by simp, by simp, by simp, by simp⟩
  · exact (hslot idx).trans (if_pos ⟨rfl, hidx⟩)
  · exact (hslot k).trans (if_neg fun h => hk h.1.symm)
  · rw [State.grantCommit_eg, Completed.entry_of_reachable hu]
    rfl
  · rw [hctx, if_pos rfl]
  · rw [hctx, if_neg (Ne.symm hk)]
  · rw [htail, hl, List.tail_cons]
  · exact (hwin w).trans (if_pos rfl)
  · exact (hwin v).trans (if_neg (Ne.symm hv))
  · exact (hflush w).trans (if_congr (and_iff_right rfl) rfl rfl)
  · rw [hflush, if_neg fun h => hv h.1.symm]
  · simp only [hdone]
    exact s.evq_grantCommit i c

end Sys2Proof.Machine

/-! PROOF. The Egress Queue (R119, R124 to R130): what a step can do to the queue, the abandoned count and the response
timer is said once, as a run of changes; the issue law with the order of the queue, and the rule of the response timer,
follow from the changes. -/

namespace Sys2Proof.Machine

/-! ### The response timer starts (R127) -/

/-- The oldest ISSUED entry leaves, and its response is awaited no more (R130). -/
def EG.abandonOldest (g : EG) : EG := { g with queue := dropOldestIssued g.queue, abandoned := g.abandoned + 1 }

theorem State.timeoutEntry_eg (s : State) (e : EgressEntry) : (s.timeoutEntry e).eg = s.eg.abandonOldest := by
  unfold State.timeoutEntry
  cases e.work <;> simp [EG.abandonOldest]

theorem length_dropOldestIssued {q : List EgressEntry} (h : ∃ e ∈ q, e.isIssued = true) :
    (dropOldestIssued q).length + 1 = q.length := by
  obtain ⟨e, hmem, hissued⟩ := h
  have hpos : 0 < q.length := List.length_pos_of_mem hmem
  rw [dropOldestIssued, List.length_eraseP_of_mem hmem hissued]
  omega

theorem State.oldestIssued_none_iff (s : State) : s.oldestIssued = none ↔ ¬ ∃ e ∈ s.eg.queue, e.isIssued = true := by
  simp [State.oldestIssued]

theorem State.exists_issued {s : State} {e : EgressEntry} (h : s.oldestIssued = some e) :
    ∃ e ∈ s.eg.queue, e.isIssued = true :=
  ⟨e, List.mem_of_find?_eq_some h, List.find?_some (p := EgressEntry.isIssued) h⟩

/-- With no ISSUED entry the response timer stops (R127). -/
theorem State.startTimer_of_none {s : State} (h : s.oldestIssued = none) : s.startTimer = s.setRespTimer none := by
  simp [State.startTimer, startTimerFuel, h]

/-- An oldest ISSUED entry whose limit has not passed has the timer run (R127). -/
theorem State.startTimer_of_waits {s : State} {e : EgressEntry} (h : s.oldestIssued = some e)
    (hage : e.age s.mp.timebase < s.mp.responseLimit.toNat) :
    s.startTimer = s.setRespTimer (some s.mp.responseLimit) := by
  simp [State.startTimer, startTimerFuel, h, hage]

/-- An oldest ISSUED entry whose limit has passed times out, and the timer starts for the next one (R127). -/
theorem State.startTimer_of_expired {s : State} {e : EgressEntry} (h : s.oldestIssued = some e)
    (hage : s.mp.responseLimit.toNat ≤ e.age s.mp.timebase) : s.startTimer = (s.timeoutEntry e).startTimer := by
  have hlength : (s.timeoutEntry e).eg.queue.length + 1 = s.eg.queue.length := by
    rw [State.timeoutEntry_eg]
    exact length_dropOldestIssued (State.exists_issued h)
  unfold State.startTimer
  rw [hlength]
  simp [startTimerFuel, h, hage]

/-! ### What a step can do to the Egress Port -/

/-- The response timer starts for the oldest ISSUED entry: some ISSUED entries are abandoned, one after another, and
then the timer runs exactly when one is left (R127, R130). -/
inductive EG.Restarts : EG → EG → Prop where
  | set {g : EG} (timer : Option (BitVec 16)) (h : timer.isSome = true ↔ ∃ e ∈ g.queue, e.isIssued = true) :
    EG.Restarts g { g with timer := timer }
  | abandon {g g' : EG} (h : ∃ e ∈ g.queue, e.isIssued = true) (rest : EG.Restarts g.abandonOldest g') :
    EG.Restarts g g'

/-- One change of the Egress Port. -/
inductive EG.Move (g : EG) : EG → Prop where
  /-- COMMIT entries become stale (R118). -/
  | stale (p : Nat → Bool) : EG.Move g { g with queue := g.queue.map (EgressEntry.staleWhere p) }
  /-- A WAITING entry joins (R122, R123). -/
  | joined (e : EgressEntry) (h : e.isIssued = false) : EG.Move g { g with queue := g.queue ++ [e] }
  /-- An unreachable entry leaves at its issue point (R125). -/
  | left (e : EgressEntry) (h : g.queue.find? (fun e => !e.isIssued) = some e) (hu : e.isUnreachable = true) :
    EG.Move g { g with queue := dropOldestWaiting g.queue }
  /-- An entry issues behind others (R124, R126). -/
  | issued (now : Time) (hwait : ∃ e ∈ g.queue, e.isIssued = false)
    (hroom : g.queue.countP EgressEntry.isIssued + g.abandoned < 16)
    (hothers : ∃ e ∈ g.queue, e.isIssued = true) : EG.Move g { g with queue := issueOldest now g.queue }
  /-- An entry issues as the only one, and the timer starts (R124, R126, R127). -/
  | issuedFirst (now : Time) (hwait : ∃ e ∈ g.queue, e.isIssued = false)
    (hroom : g.queue.countP EgressEntry.isIssued + g.abandoned < 16) {g' : EG}
    (h : EG.Restarts { g with queue := issueOldest now g.queue } g') : EG.Move g g'
  /-- The response of an abandoned entry is counted off (R128). -/
  | late (h : 0 < g.abandoned) : EG.Move g { g with abandoned := g.abandoned - 1 }
  /-- A response completes the oldest ISSUED entry, and the timer moves on (R127, R129). -/
  | answered (hmatched : g.abandoned = 0) (hissued : ∃ e ∈ g.queue, e.isIssued = true) {g' : EG}
    (h : EG.Restarts { g with queue := dropOldestIssued g.queue } g') : EG.Move g g'
  /-- The timer starts again (R127, R130). -/
  | restarted {g' : EG} (h : EG.Restarts g g') : EG.Move g g'
  /-- A reset (R136). -/
  | cleared : EG.Move g { queue := [], abandoned := 0, timer := none }

/-- A run of changes of the Egress Port. -/
def EG.Moves : EG → EG → Prop := Relation.ReflTransGen EG.Move

namespace EG.Moves

variable {g g' g'' : EG}

theorem refl (g : EG) : EG.Moves g g := Relation.ReflTransGen.refl

theorem trans (h : EG.Moves g g') (k : EG.Moves g' g'') : EG.Moves g g'' := Relation.ReflTransGen.trans h k

theorem of_move (h : EG.Move g g') : EG.Moves g g' := Relation.ReflTransGen.single h

/-- A change, of a state whose port is what the change makes. -/
theorem of_move_eq (h : EG.Move g g') (he : g'' = g') : EG.Moves g g'' := he ▸ of_move h

theorem of_eq (h : g' = g) : EG.Moves g g' := h ▸ refl g

/-- A run from an equal port: what an operation on a changed state says of the state before. -/
theorem after (h : g' = g) (k : EG.Moves g' g'') : EG.Moves g g'' := (of_eq h).trans k

/-- What each change keeps, a run of changes keeps. -/
theorem keeps {P : EG → Prop} (one : ∀ g g', EG.Move g g' → P g → P g') (h : EG.Moves g g') (hp : P g) : P g' := by
  induction h with
  | refl => exact hp
  | tail _ hm ih => exact one _ _ hm ih

end EG.Moves

/-- The start of the response timer is a restart of the port (R127). -/
theorem State.startTimer_restarts (s : State) : EG.Restarts s.eg s.startTimer.eg := by
  induction hn : s.eg.queue.length generalizing s with
  | zero =>
    have hnil : s.eg.queue = [] := List.length_eq_zero_iff.1 hn
    have hnone : s.oldestIssued = none := by simp [State.oldestIssued, hnil]
    rw [State.startTimer_of_none hnone]
    exact .set none (by simp [hnil])
  | succ n ih =>
    cases he : s.oldestIssued with
    | none =>
      rw [State.startTimer_of_none he]
      exact .set none (by simpa using (s.oldestIssued_none_iff).1 he)
    | some e =>
      have hissued := State.exists_issued he
      rcases lt_or_ge (e.age s.mp.timebase) s.mp.responseLimit.toNat with hage | hage
      · rw [State.startTimer_of_waits he hage]
        exact .set _ (by simpa using hissued)
      · rw [State.startTimer_of_expired he hage]
        have hlength : (s.timeoutEntry e).eg.queue.length = n := by
          rw [State.timeoutEntry_eg]
          exact Nat.succ.inj ((length_dropOldestIssued hissued).trans hn)
        refine .abandon hissued ?_
        rw [← State.timeoutEntry_eg s e]
        exact ih _ hlength

/-- A restart, of a state whose port is known. -/
theorem State.restarts_of_eg {s : State} {g : EG} (h : s.eg = g) : EG.Restarts g s.startTimer.eg :=
  h ▸ s.startTimer_restarts

/-! ### The shared operations -/

theorem State.applyHead_egMoves (s : State) (p : Program) (rest : List Program) (route : Nat) :
    EG.Moves s.eg (s.applyHead p rest route).eg := by
  unfold State.applyHead
  split
  · exact .of_eq (by simp)
  · exact .of_move (.stale _)

theorem processHeads_egMoves (l : List Program) (s : State) : EG.Moves s.eg (processHeads l s).eg :=
  processHeads_induct (fun t => EG.Moves s.eg t.eg)
    (apply := fun t p rest _ _ h => h.trans (t.applyHead_egMoves p rest 1))
    (drain := fun t p _ _ _ _ h => h.trans (.of_eq (by simp)))
    (cut := fun t p rest _ _ _ h => h.trans (.after (by simp) ((t.cutOver p.window).applyHead_egMoves p rest 4)))
    l s (.refl _)

theorem State.finishDrain_egMoves (s : State) : EG.Moves s.eg s.finishDrain.eg := by
  unfold State.finishDrain
  split
  · exact .refl _
  · split
    · exact ((s.setDrainTimer none).applyHead_egMoves _ _ _).trans (processHeads_egMoves ..)
    · exact .refl _

theorem State.takeSamples_egMoves (s : State) (r : Request) (link : Nat) (d : Decoded) (kept : Option Timer) :
    EG.Moves s.eg (s.takeSamples r link d kept).eg := by
  unfold State.takeSamples
  dsimp only
  split
  · exact .after (by simp) (State.finishDrain_egMoves _)
  all_goals exact .of_eq (by simp)

theorem State.classify_egMoves (s : State) (r : Request) (link : Nat) (kept : Option Timer) :
    EG.Moves s.eg (s.classify r link kept).eg := by
  unfold State.classify
  split
  case h_4 => exact s.takeSamples_egMoves ..
  all_goals exact .of_eq (by simp)

theorem State.release_egMoves (s : State) : EG.Moves s.eg s.release.eg := by
  unfold State.release
  split
  · exact .refl _
  · exact .refl _
  · exact .after (by simp) (State.classify_egMoves ..)

theorem State.settle_egMoves (before s : State) : EG.Moves s.eg (State.settle before s).eg := by
  unfold State.settle
  dsimp only
  split
  · exact .after (by simp) ((State.finishDrain_egMoves _).trans (State.release_egMoves _))
  · exact .of_eq (by simp)

theorem State.issuePoints_egMoves (s : State) : EG.Moves s.eg s.issuePoints.eg :=
  State.issuePoints_induct (fun t => EG.Moves s.eg t.eg)
    (fun _ e _ he hw hu h => h.trans
      (.of_move_eq (.left e he (by simpa [EgressEntry.isUnreachable, hw] using hu)) (by simp))) s (.refl _)

/-! ### The rows -/

theorem State.present_egMoves (s : State) (r : Request) : EG.Moves s.eg (s.present r).eg := by
  unfold State.present
  split
  · refine .after ?_ (State.classify_egMoves ..)
    rfl
  · exact .refl _

theorem State.deliver_eg (s : State) : s.deliver.eg = s.eg := by
  unfold State.deliver
  split
  · rfl
  · split <;> rfl

theorem State.holdExpiry_eg (s : State) : s.holdExpiry.eg = s.eg := by
  unfold State.holdExpiry
  split
  · split <;> simp
  all_goals rfl

theorem State.idleEnd_eg (s : State) (i : Fin 64) (a : Accum) : (s.idleEnd i a).eg = s.eg := by
  unfold State.idleEnd
  split <;> simp

theorem State.idleExpiry_egMoves (s : State) (w : Fin 16) (slot : Nat) : EG.Moves s.eg (s.idleExpiry w slot).eg := by
  unfold State.idleExpiry
  split
  · exact .refl _
  · split
    · split
      · exact .after (s.idleEnd_eg _ _) (State.settle_egMoves ..)
      · exact .refl _
    all_goals exact .refl _

theorem State.forceContexts_eg (s : State) (w : Fin 16) : (s.forceContexts w).eg = s.eg := by
  unfold State.forceContexts
  split
  · simp
  · dsimp only
    split <;> simp

theorem State.drainExpiry_egMoves (s : State) : EG.Moves s.eg s.drainExpiry.eg := by
  unfold State.drainExpiry
  split
  · split
    · exact .after (by simp [State.forceContexts_eg]) (State.settle_egMoves ..)
    · exact .refl _
  all_goals exact .refl _

theorem State.afterUnreachable_egMoves (s : State) : EG.Moves s.eg s.afterUnreachable.eg := by
  have hrun (t : State) : t.keepRun.eg = t.eg := by simp
  unfold State.afterUnreachable
  dsimp only
  refine .trans (.after ?_ (State.issuePoints_egMoves _)) (.of_eq (hrun _))
  simp

theorem State.grantCommit_egMoves (s : State) (i : Fin 64) (c : Completed) : EG.Moves s.eg (s.grantCommit i c).eg :=
  .of_move_eq (.joined (c.entry _ _ _) rfl) (s.grantCommit_eg i c)

theorem State.commitEntry_egMoves (s : State) : EG.Moves s.eg s.commitEntry.eg := by
  unfold State.commitEntry
  split
  · exact .refl _
  · rename_i i c _
    split
    · refine .trans (s.grantCommit_egMoves i c) ?_
      dsimp only
      split
      · exact (State.afterUnreachable_egMoves _).trans (State.settle_egMoves ..)
      · exact State.settle_egMoves ..
    · exact .refl _

theorem State.grantIngress_eg (s : State) (o : Offer) :
    (s.grantIngress o).eg = { s.eg with queue := s.eg.queue ++ [o.entry] } := by
  unfold State.grantIngress
  dsimp only
  split <;> simp

theorem State.ingressEntry_egMoves (s : State) : EG.Moves s.eg s.ingressEntry.eg := by
  unfold State.ingressEntry
  split
  · exact .refl _
  · exact .refl _
  · rename_i o _
    split
    · exact .of_move_eq (.joined o.entry rfl) (s.grantIngress_eg o)
    · exact .refl _

theorem State.exists_waiting {s : State} {e : EgressEntry} (h : s.oldestWaiting = some e) :
    ∃ e ∈ s.eg.queue, e.isIssued = false :=
  ⟨e, List.mem_of_find?_eq_some h, by simpa using List.find?_some h⟩

/-- EGQ_VALID is high only with room under the issue limit (R124, R126). -/
theorem State.room_of_egqValid {s : State} (h : s.egqValid = true) : s.issuedCount + s.eg.abandoned < 16 := by
  unfold State.egqValid at h
  cases hw : s.oldestWaiting with
  | none => simp [hw] at h
  | some e =>
    rw [hw, Bool.and_eq_true, Bool.and_eq_true] at h
    obtain ⟨-, -, hroom⟩ := h
    exact of_decide_eq_true hroom

theorem State.send_egMoves {s : State} {e : EgressEntry} (hwait : s.oldestWaiting = some e)
    (hvalid : s.egqValid = true) : EG.Moves s.eg (s.send e).eg := by
  have hroom := State.room_of_egqValid hvalid
  unfold State.send
  dsimp only
  split
  · refine .of_move (.issuedFirst s.mp.timebase (State.exists_waiting hwait) hroom (State.restarts_of_eg ?_))
    rfl
  · rename_i hsome
    have hothers : ∃ e ∈ s.eg.queue, e.isIssued = true := List.countP_pos_iff.1 (Nat.pos_of_ne_zero hsome)
    exact .of_move (.issued s.mp.timebase (State.exists_waiting hwait) hroom hothers)

theorem State.issue_egMoves (s : State) (ready : Bool) : EG.Moves s.eg (s.issue ready).eg := by
  unfold State.issue
  split
  · exact .refl _
  · rename_i e he
    split
    · exact s.issuePoints_egMoves
    · split
      · rename_i hc
        exact (State.send_egMoves he (Bool.and_eq_true_iff.1 hc).1).trans (State.issuePoints_egMoves _)
      · exact .refl _

theorem State.completeEntry_eg (s : State) (e : EgressEntry) (st : LinkStatus) (d : Lanes) :
    (s.completeEntry e st d).eg = { s.eg with queue := dropOldestIssued s.eg.queue } := by
  unfold State.completeEntry
  cases e.work <;> cases st <;> simp

theorem State.memoryResponse_egMoves (s : State) (st : LinkStatus) (d : Lanes) :
    EG.Moves s.eg (s.memoryResponse st d).eg := by
  unfold State.memoryResponse
  split
  · rename_i hlate
    exact .of_move (.late hlate)
  · rename_i hmatched
    split
    · rename_i e he
      exact .of_move (.answered (Nat.eq_zero_of_not_pos hmatched) (State.exists_issued he)
        (State.restarts_of_eg (s.completeEntry_eg e st d)))
    · exact .refl _

theorem State.responseExpiry_egMoves (s : State) : EG.Moves s.eg s.responseExpiry.eg := by
  unfold State.responseExpiry
  split
  · rename_i e _ he
    split
    · exact .of_move (.restarted (.abandon (State.exists_issued he) (State.restarts_of_eg (s.timeoutEntry_eg e))))
    · exact .refl _
  all_goals exact .refl _

theorem State.stageProgram_egMoves (s : State) (p : Program) : EG.Moves s.eg (s.stageProgram p).eg := by
  unfold State.stageProgram
  split
  · exact (processHeads_egMoves ..).trans (State.release_egMoves _)
  · exact .refl _

theorem State.withdrawAll_egMoves (s : State) (w : Fin 16) : EG.Moves s.eg (s.withdrawAll w).eg := by
  unfold State.withdrawAll
  dsimp only
  split
  · exact .refl _
  · split
    · refine .trans (.after ?_ (processHeads_egMoves ..)) (State.release_egMoves _)
      split <;> rfl
    · exact .refl _

theorem State.flushWindow_egMoves (s : State) (w : Fin 16) : EG.Moves s.eg (s.flushWindow w).eg := by
  unfold State.flushWindow
  dsimp only
  refine .after ?_ (State.settle_egMoves ..)
  split <;> simp

/-- Every row is a run of changes of the Egress Port. -/
theorem rowRel_egMoves : RowRel fun s t => EG.Moves s.eg t.eg where
  refl s := .refl s.eg
  trans := .trans
  registers _ _ _ _ heg _ := .of_eq heg
  present := State.present_egMoves
  deliver s := .of_eq s.deliver_eg
  holdExpiry s := .of_eq s.holdExpiry_eg
  idleExpiry := State.idleExpiry_egMoves
  drainExpiry := State.drainExpiry_egMoves
  commitEntry := State.commitEntry_egMoves
  ingressEntry := State.ingressEntry_egMoves
  issue := State.issue_egMoves
  memoryResponse := State.memoryResponse_egMoves
  responseExpiry := State.responseExpiry_egMoves
  stage s _ p _ _ := s.stageProgram_egMoves p
  withdraw := State.withdrawAll_egMoves
  flush s w _ _ := s.flushWindow_egMoves w
  engineReset _ := .of_move (.stale _)
  release := State.release_egMoves
  resetBlocks _ _ := .of_move .cleared

/-- Every step is a run of changes of the Egress Port. -/
theorem step_egMoves {s t : State} (h : step s = .next t) : EG.Moves s.eg t.eg := rowRel_egMoves.step h

/-! ### The issue law (R126) and the order of the queue (R119) -/

/-- The ISSUED entries stand ahead of the WAITING ones (R119). -/
def IssuedFirst (q : List EgressEntry) : Prop :=
  ∃ issued waiting, q = issued ++ waiting ∧ (∀ e ∈ issued, e.isIssued = true) ∧ ∀ e ∈ waiting, e.isIssued = false

namespace IssuedFirst

variable {q : List EgressEntry}

theorem map_stale (h : IssuedFirst q) (p : Nat → Bool) : IssuedFirst (q.map (EgressEntry.staleWhere p)) := by
  obtain ⟨issued, waiting, rfl, hissued, hwaiting⟩ := h
  exact ⟨_, _, List.map_append, by simpa using hissued, by simpa using hwaiting⟩

theorem joined (h : IssuedFirst q) {e : EgressEntry} (he : e.isIssued = false) : IssuedFirst (q ++ [e]) := by
  obtain ⟨issued, waiting, rfl, hissued, hwaiting⟩ := h
  refine ⟨issued, waiting ++ [e], List.append_assoc .., hissued, fun x hx => ?_⟩
  rcases List.mem_append.1 hx with hx | hx
  · exact hwaiting x hx
  · rwa [List.mem_singleton.1 hx]

theorem dropOldestWaiting (h : IssuedFirst q) : IssuedFirst (dropOldestWaiting q) := by
  obtain ⟨issued, waiting, rfl, hissued, hwaiting⟩ := h
  cases waiting with
  | nil =>
    have hsame : Machine.dropOldestWaiting (issued ++ []) = issued ++ [] :=
      List.eraseP_of_forall_not (by simpa using hissued)
    exact ⟨issued, [], hsame, hissued, hwaiting⟩
  | cons e waiting =>
    exact ⟨issued, waiting, dropOldestWaiting_append hissued (hwaiting e (by simp)), hissued,
      fun x hx => hwaiting x (by simp [hx])⟩

theorem dropOldestIssued (h : IssuedFirst q) : IssuedFirst (dropOldestIssued q) := by
  obtain ⟨issued, waiting, rfl, hissued, hwaiting⟩ := h
  cases issued with
  | nil =>
    have hsame : Machine.dropOldestIssued waiting = waiting := List.eraseP_of_forall_not (by simpa using hwaiting)
    exact ⟨[], waiting, hsame, hissued, hwaiting⟩
  | cons e issued =>
    exact ⟨issued, waiting, List.eraseP_cons_of_pos (hissued e (by simp)), fun x hx => hissued x (by simp [hx]),
      hwaiting⟩

theorem issueOldest (h : IssuedFirst q) (hwait : ∃ e ∈ q, e.isIssued = false) (now : Time) :
    IssuedFirst (issueOldest now q) := by
  obtain ⟨issued, waiting, rfl, hissued, hwaiting⟩ := h
  cases waiting with
  | nil =>
    obtain ⟨e, hmem, he⟩ := hwait
    rw [hissued e (by simpa using hmem)] at he
    cases he
  | cons e waiting =>
    refine ⟨issued ++ [{ e with issued := some now }], waiting, ?_, fun x hx => ?_,
      fun x hx => hwaiting x (by simp [hx])⟩
    · rw [issueOldest_append now issued waiting e hissued (hwaiting e (by simp)), List.append_assoc]
      rfl
    · rcases List.mem_append.1 hx with hx | hx
      · exact hissued x hx
      · rw [List.mem_singleton.1 hx]
        rfl

end IssuedFirst

/-- The issue law (R126) with the order of the queue (R119), said of the port. -/
def EG.IssueLawful (g : EG) : Prop := g.queue.countP EgressEntry.isIssued + g.abandoned ≤ 16 ∧ IssuedFirst g.queue

theorem issueLawful_iff (s : State) : s.eg.IssueLawful ↔ IssueLaw s ∧ QueueOrderLaw s := Iff.rfl

namespace EG.IssueLawful

variable {g g' : EG}

/-- An entry abandoned is one ISSUED entry less and one abandoned more (R130). -/
theorem abandonOldest (h : g.IssueLawful) (hissued : ∃ e ∈ g.queue, e.isIssued = true) :
    g.abandonOldest.IssueLawful := by
  obtain ⟨hlimit, horder⟩ := h
  have hcount := countP_dropOldestIssued g.queue hissued
  refine ⟨?_, horder.dropOldestIssued⟩
  show (dropOldestIssued g.queue).countP EgressEntry.isIssued + (g.abandoned + 1) ≤ 16
  omega

theorem restarts (hr : EG.Restarts g g') (h : g.IssueLawful) : g'.IssueLawful := by
  induction hr with
  | set timer _ => exact h
  | abandon hissued _ ih => exact ih (h.abandonOldest hissued)

/-- An entry answered is one ISSUED entry less (R129). -/
theorem dropOldestIssued (h : g.IssueLawful) :
    EG.IssueLawful { g with queue := Machine.dropOldestIssued g.queue } := by
  obtain ⟨hlimit, horder⟩ := h
  have hcount := (List.eraseP_sublist (p := EgressEntry.isIssued) (l := g.queue)).countP_le (p := EgressEntry.isIssued)
  exact ⟨(Nat.add_le_add_right hcount _).trans hlimit, horder.dropOldestIssued⟩

/-- An issue with room under the limit keeps to it (R126). -/
theorem issueOldest (h : g.IssueLawful) (hwait : ∃ e ∈ g.queue, e.isIssued = false)
    (hroom : g.queue.countP EgressEntry.isIssued + g.abandoned < 16) (now : Time) :
    EG.IssueLawful { g with queue := Machine.issueOldest now g.queue } := by
  obtain ⟨-, horder⟩ := h
  refine ⟨?_, horder.issueOldest hwait now⟩
  show (Machine.issueOldest now g.queue).countP EgressEntry.isIssued + g.abandoned ≤ 16
  rw [countP_issueOldest now g.queue hwait]
  omega

theorem move (hm : EG.Move g g') (h : g.IssueLawful) : g'.IssueLawful := by
  obtain ⟨hlimit, horder⟩ := h
  cases hm with
  | stale p =>
    refine ⟨?_, horder.map_stale p⟩
    have hsame : EgressEntry.isIssued ∘ EgressEntry.staleWhere p = EgressEntry.isIssued := by funext e; simp
    rwa [List.countP_map, hsame]
  | joined e he => exact ⟨by simpa [he] using hlimit, horder.joined he⟩
  | left _ _ _ => exact ⟨by rwa [countP_dropOldestWaiting], horder.dropOldestWaiting⟩
  | issued now hwait hroom _ => exact issueOldest ⟨hlimit, horder⟩ hwait hroom now
  | issuedFirst now hwait hroom hr => exact restarts hr (issueOldest ⟨hlimit, horder⟩ hwait hroom now)
  | late _ => exact ⟨(Nat.add_le_add_left (Nat.sub_le _ _) _).trans hlimit, horder⟩
  | answered _ _ hr => exact restarts hr (dropOldestIssued ⟨hlimit, horder⟩)
  | restarted hr => exact restarts hr ⟨hlimit, horder⟩
  | cleared => exact ⟨Nat.zero_le _, [], [], rfl, by simp, by simp⟩

end EG.IssueLawful

/-- Settles O51: a step is a run of changes of the Egress Port, and each keeps the limit and the order. -/
theorem issueLawKept : Obligations.IssueLawKept := by
  unfold Obligations.IssueLawKept
  intro s t hs hstep
  exact (issueLawful_iff t).1 ((step_egMoves hstep).keeps (fun _ _ => EG.IssueLawful.move) ((issueLawful_iff s).2 hs))

/-! ### The response timer runs exactly while an entry is ISSUED (R127) -/

/-- The rule of the response timer (R127), said of the port. -/
def EG.TimerLawful (g : EG) : Prop := g.timer.isSome = true ↔ ∃ e ∈ g.queue, e.isIssued = true

theorem timerLawful_iff (s : State) : s.eg.TimerLawful ↔ ResponseTimerLaw s := Iff.rfl

namespace EG.TimerLawful

variable {g g' : EG}

/-- After a start of the timer the rule holds, whatever held before (R127). -/
theorem of_restarts (hr : EG.Restarts g g') : g'.TimerLawful := by
  induction hr with
  | set _ h => exact h
  | abandon _ _ ih => exact ih

/-- A change that leaves the timer as it is keeps the rule when it leaves the queue an ISSUED entry or none. -/
theorem of_queue (h : g.TimerLawful) {q : List EgressEntry}
    (hq : (∃ e ∈ q, e.isIssued = true) ↔ ∃ e ∈ g.queue, e.isIssued = true) :
    EG.TimerLawful { g with queue := q } := Iff.trans h hq.symm

theorem move (hm : EG.Move g g') (h : g.TimerLawful) : g'.TimerLawful := by
  cases hm with
  | stale p => exact h.of_queue (by simp)
  | joined e he => exact h.of_queue (by simp [or_and_right, exists_or, he])
  | left _ _ _ =>
    refine h.of_queue ?_
    rw [← List.countP_pos_iff, ← List.countP_pos_iff, countP_dropOldestWaiting]
  | issued now hwait _ hothers =>
    refine h.of_queue (iff_of_true ?_ hothers)
    rw [← List.countP_pos_iff, countP_issueOldest now g.queue hwait]
    exact Nat.succ_pos _
  | issuedFirst now _ _ hr => exact of_restarts hr
  | late _ => exact h
  | answered _ _ hr => exact of_restarts hr
  | restarted hr => exact of_restarts hr
  | cleared => exact iff_of_false (by simp) (by simp)

end EG.TimerLawful

/-- Settles O52: a step is a run of changes of the Egress Port; those that start the timer make the rule hold, and the
others leave the timer and whether an entry is ISSUED as they were. -/
theorem responseTimerLawKept : Obligations.ResponseTimerLawKept := by
  unfold Obligations.ResponseTimerLawKept
  intro s t hs hstep
  exact (timerLawful_iff t).1 ((step_egMoves hstep).keeps (fun _ _ => EG.TimerLawful.move) ((timerLawful_iff s).2 hs))

end Sys2Proof.Machine

/-! PROOF. The egress request channel (R124, R126, R201): when EGQ_VALID is high, what the pins carry, and what an edge
does. -/

namespace Sys2Proof.Machine

section
variable {s : State} {pre post : List EgressEntry} {e : EgressEntry}

theorem State.oldestWaiting_of_queue (hq : s.eg.queue = pre ++ e :: post) (hpre : ∀ x ∈ pre, x.isIssued = true)
    (he : e.isIssued = false) : s.oldestWaiting = some e := by
  rw [State.oldestWaiting, hq]
  exact find?_waiting pre post e hpre he

/-- With a reachable oldest WAITING entry EGQ_VALID is the room under the issue limit (R124, R126). -/
theorem State.egqValid_of_queue (hr : s.hold = .running) (hq : s.eg.queue = pre ++ e :: post)
    (hpre : ∀ x ∈ pre, x.isIssued = true) (he : e.isIssued = false) (hu : e.isUnreachable = false)
    (hpost : ∀ x ∈ post, x.isIssued = false) : s.egqValid = decide (pre.length + s.eg.abandoned < 16) := by
  simp [State.egqValid, State.running, hr, State.oldestWaiting_of_queue hq hpre he, hu,
    State.issuedCount_of_queue hq hpre he hpost, Config.egressQueue]

/-- Nothing issues while EGQ_VALID or EGQ_READY is low (R124). -/
theorem State.issue_of_not_taken (hw : s.oldestWaiting = some e) (hu : e.isUnreachable = false) {ready : Bool}
    (h : (s.egqValid && ready) = false) : s.issue ready = s := by
  simp [State.issue, hw, hu, h]

/-- With EGQ_VALID high the channel carries the oldest WAITING entry's request (R124, R201). -/
theorem State.egqPins_of_valid (hw : s.oldestWaiting = some e) (hv : s.egqValid = true) :
    s.egqPins = some e.request.egqPins := by
  simp [State.egqPins, hv, hw]

end

/-- Data bytes travel on the lanes of their addresses (R201). -/
theorem Request.egqPins_data (r : Request) {j : Nat} (hj : r.addr.toNat % 64 + j < 64) :
    r.egqPins.data[r.addr.toNat % 64 + j] = r.data.getD j 0 := by
  show (toLanes (laneOf r.addr) r.data)[r.addr.toNat % 64 + j] = _
  rw [getElem_toLanes _ _ _ hj, laneOf, if_pos (Nat.le_add_right _ _), Nat.add_sub_cancel_left]

/-- Byte enables travel on the lanes of their bytes (R201). -/
theorem Request.egqPins_be (r : Request) {j : Nat} (hj : r.addr.toNat % 64 + j < 64) :
    r.egqPins.be.getLsbD (r.addr.toNat % 64 + j) = r.be.getD j false := by
  show (enableLanes (laneOf r.addr) r.be).getLsbD _ = _
  rw [getLsbD_enableLanes _ _ _ hj, laneOf, decide_eq_true (Nat.le_add_right _ _), Nat.add_sub_cancel_left,
    Bool.true_and]

/-- Settles O43: an issue is one with no unreachable entry behind it (O44), and the pins carry the entry's request. -/
theorem issueSendsTheOldestWaiting : Obligations.IssueSendsTheOldestWaiting := by
  unfold Obligations.IssueSendsTheOldestWaiting
  intro s pre post e hr hq hpre he hu hpost hnext hlimit kind sent
  have hwaits : s.oldestWaiting = some e := State.oldestWaiting_of_queue hq hpre he
  have hvalid := State.egqValid_of_queue hr hq hpre he hu hpost
  have hidle (ready : Bool) (h : (s.egqValid && ready) = false) : exec (.issue ready) s = .next s := by
    show Host.Outcome.next (s.active (·.issue ready)) = _
    rw [State.active_running hr, State.issue_of_not_taken hwaits hu h]
  have hkind : e.request.kind = kind := rfl
  refine ⟨fun hroom => ?sends, fun hroom => ?pins, fun hfull => ?low, fun hfull => ?full, hidle false (by simp)⟩
  case sends =>
    obtain ⟨-, hissue⟩ := unreachableCommitFails
    exact hissue s pre e [] post hr hq hpre he hu hpost (by simp) hnext hroom hlimit
  case pins =>
    have hhigh : s.egqValid = true := by rw [hvalid, decide_eq_true hroom]
    refine ⟨hhigh, e.request.egqPins.data, e.request.egqPins.be, ?_, fun j hj _ => e.request.egqPins_data hj,
      fun hfit j hj => e.request.egqPins_be (by show e.addr.toNat % 64 + j < 64; omega)⟩
    rw [State.egqPins_of_valid hwaits hhigh, ← hkind, ← LinkKind.level_eq]
    rfl
  case low =>
    have hlow : s.egqValid = false := by rw [hvalid, decide_eq_false (by omega)]
    exact ⟨hlow, s.egqPins_low hlow⟩
  case full =>
    exact hidle true (by rw [hvalid, decide_eq_false (by omega), Bool.false_and])

end Sys2Proof.Machine

/-! PROOF. The expiry of the response timer (R127, R130, R133): the oldest ISSUED entry times out, and behind it the
entries whose limit has passed. -/

namespace Sys2Proof.Machine

/-- The Egress Port replaced. -/
def State.setEg (s : State) (g : EG) : State := { s with eg := g }

/-- What an entry that times out leaves behind outside the Egress Port: MEMORY_TIMEOUT, and its request answered with
ERROR or its commit failed (R112, R130, R133). -/
def State.expireEntry (s : State) (x : EgressEntry) : State :=
  match x.work with
  | .passRead link => (s.record .memoryTimeout none none (low32 x.addr) 1).rolReady link .error []
  | .passWrite link => (s.record .memoryTimeout none none (low32 x.addr) 2).rolReady link .error []
  | .commit l => (s.record .memoryTimeout (some l.window) (some l.slot) (l.seq.setWidth 32) 3).commitFailure l

theorem State.setEg_commitFailure (s : State) (l : CommitLink) (g : EG) :
    (s.commitFailure l).setEg g = (s.setEg g).commitFailure l := by
  unfold State.commitFailure
  rw [apply_ite (State.setEg · g)]
  rfl

theorem State.setEg_expireEntry (s : State) (x : EgressEntry) (g : EG) :
    (s.expireEntry x).setEg g = (s.setEg g).expireEntry x := by
  unfold State.expireEntry
  cases x.work
  case commit l => exact State.setEg_commitFailure _ l g
  all_goals rfl

theorem State.timeoutEntry_eq (s : State) (x : EgressEntry) :
    s.timeoutEntry x = (s.setEg s.eg.abandonOldest).expireEntry x := by
  unfold State.timeoutEntry State.expireEntry
  cases x.work <;> rfl

theorem State.oldestIssued_of_head {s : State} {e : EgressEntry} {rest : List EgressEntry} (hq : s.eg.queue = e :: rest)
    (he : e.isIssued = true) : s.oldestIssued = some e := by
  rw [State.oldestIssued, hq, List.find?_cons_of_pos he]

/-- The head of the queue, ISSUED, is the entry abandoned. -/
theorem EG.abandonOldest_of_head {g : EG} {e : EgressEntry} {rest : List EgressEntry} (hq : g.queue = e :: rest)
    (he : e.isIssued = true) : g.abandonOldest = { g with queue := rest, abandoned := g.abandoned + 1 } := by
  rw [EG.abandonOldest, hq, dropOldestIssued, List.eraseP_cons_of_pos he]

/-- The port after the timer has started on a queue whose first `n` entries time out and leave `post` (R127, R130). -/
def EG.afterTimeouts (g : EG) (n : Nat) (post : List EgressEntry) (limit : BitVec 16) : EG where
  queue := post
  abandoned := g.abandoned + n
  timer := if post.any EgressEntry.isIssued then some limit else none

/-- The timer starts on a queue whose first entries' limit has passed: they time out one after another (R127). -/
theorem State.startTimer_of_expired_run {post : List EgressEntry} (old : List EgressEntry) (s : State)
    (hq : s.eg.queue = old ++ post)
    (hexpired : ∀ x ∈ old, x.isIssued = true ∧ s.mp.responseLimit.toNat ≤ x.age s.mp.timebase)
    (hyoung : ∀ x ∈ post, x.isIssued = true → x.age s.mp.timebase < s.mp.responseLimit.toNat) :
    s.startTimer =
      old.foldl State.expireEntry (s.setEg (s.eg.afterTimeouts old.length post s.mp.responseLimit)) := by
  induction old generalizing s with
  | nil =>
    rw [List.nil_append] at hq
    rw [State.startTimer_of_young s (by rwa [hq])]
    simp [EG.afterTimeouts, State.setEg, State.setRespTimer, ← hq]
  | cons x old ih =>
    obtain ⟨hissued, hage⟩ := hexpired x (by simp)
    have hmp : (s.timeoutEntry x).mp = s.mp := by simp
    have heg : (s.timeoutEntry x).eg = { s.eg with queue := old ++ post, abandoned := s.eg.abandoned + 1 } := by
      rw [State.timeoutEntry_eg, EG.abandonOldest_of_head hq hissued]
      rfl
    have hafter : (s.timeoutEntry x).eg.afterTimeouts old.length post s.mp.responseLimit =
        s.eg.afterTimeouts (x :: old).length post s.mp.responseLimit := by
      simp [EG.afterTimeouts, heg, Nat.add_right_comm, Nat.add_assoc]
    have hrest := ih (s.timeoutEntry x) (by rw [heg]) (by rw [hmp]; exact fun y hy => hexpired y (by simp [hy]))
      (by rwa [hmp])
    rw [State.startTimer_of_expired (State.oldestIssued_of_head hq hissued) hage, hrest, hmp, hafter, State.timeoutEntry_eq,
      State.setEg_expireEntry, List.foldl_cons]
    rfl

/-- Unread becomes no when the entry is not stale and its seq is still the slot's (R112). -/
theorem State.commitFailure_eq (s : State) (l : CommitLink) : s.commitFailure l =
    if l.stale = false ∧ (s.slotAt l.index).seq = l.seq then { s with ct := s.ct.setIfInBounds l.index ⟨l.seq, false⟩ }
    else s := by
  unfold State.commitFailure
  by_cases h : l.stale = false ∧ (s.slotAt l.index).seq = l.seq
  · obtain ⟨hstale, hseq⟩ := h
    simp only [hstale, hseq]
    rfl
  · rw [if_neg h, if_neg (by rwa [Bool.and_eq_true, Bool.not_eq_true', decide_eq_true_eq])]

/-- Settles O46: the timer that is not due, and the head's timeout with the start of the timer behind it. -/
theorem responseTimeoutAbandonsTheEntry : Obligations.ResponseTimeoutAbandonsTheEntry := by
  unfold Obligations.ResponseTimeoutAbandonsTheEntry
  intro s e old post limit t0 hr hq hissue htimer hexpired hyoung t refused gone
  have hissued : e.isIssued = true := by simp [EgressEntry.isIssued, hissue]
  have holdest : s.oldestIssued = some e := State.oldestIssued_of_head hq hissued
  have hage : e.age s.mp.timebase = (s.mp.timebase - t0).toNat := by simp [EgressEntry.age, hissue, elapsed]
  have hexec : exec .responseTimeout s = .next (if limit.toNat ≤ (s.mp.timebase - t0).toNat then
      (s.timeoutEntry e).startTimer else s) := by
    show Host.Outcome.next (s.active State.responseExpiry) = _
    rw [State.active_running hr]
    simp only [State.responseExpiry, htimer, holdest, hage]
  have hgone : gone = State.expireEntry := by
    funext u x
    simp only [gone, refused, State.expireEntry]
    cases x.work
    case commit l => exact (State.commitFailure_eq
      (u.record .memoryTimeout (some l.window) (some l.slot) (l.seq.setWidth 32) 3) l).symm
    all_goals exact (State.rolReady_eq _ _ _ _).symm
  refine ⟨fun hearly => by rw [hexec, if_neg (by omega)], fun hdue => ?_⟩
  have heg := EG.abandonOldest_of_head hq hissued
  have hmp : (s.timeoutEntry e).mp = s.mp := by simp
  have ht : s.setEg ((s.timeoutEntry e).eg.afterTimeouts old.length post s.mp.responseLimit) = t := by
    rw [State.timeoutEntry_eg, heg]
    rfl
  rw [hexec, if_pos hdue, State.startTimer_of_expired_run old _ (by rw [State.timeoutEntry_eg, heg]) (by rwa [hmp])
    (by rwa [hmp]), hmp, hgone, List.foldl_cons, ← ht]
  simp only [State.timeoutEntry_eq, State.setEg_expireEntry]
  rfl

end Sys2Proof.Machine

/-! PROOF. The drain law (R149): a drain is started, forced and ended only on the head of the Stage Queue, so every step
keeps it. -/

namespace Sys2Proof.Machine

/-! ### The windows that drain -/

theorem State.state_of_shape {s t : State} (h : t.shape = s.shape) (w : Fin 16) :
    (t.win w).state = (s.win w).state := congrArg Prod.snd (congrFun h w)

theorem WState.isDraining_of_eq {x : WState} {sub : DrainSub} (h : x = .draining sub) : x.isDraining = true := by
  rw [h]; rfl

/-- A DRAINING window returned to OPEN, and any other as it was (R150, R157). -/
theorem WState.isDraining_returned (x : WState) : (if x.isDraining then .opened else x).isDraining = false := by
  cases x <;> rfl

/-- The law speaks of the windows' states, the Stage Queue and the drain timer. -/
theorem DrainLaw.of_shape {s t : State} (h : DrainLaw s) (hs : t.shape = s.shape) (hp : t.pa = s.pa) :
    DrainLaw t := by
  simpa only [DrainLaw, State.state_of_shape hs, hp] using h

/-- No window is DRAINING, and the drain timer is stopped. -/
def State.Undrained (s : State) : Prop := (∀ v, (s.win v).state.isDraining = false) ∧ s.pa.drainTimer = none

/-- No window but `w` is DRAINING, and the drain timer is stopped: what an apply to `w` finds (R146). -/
def State.UndrainedBut (s : State) (w : Fin 16) : Prop :=
  (∀ v, v ≠ w → (s.win v).state.isDraining = false) ∧ s.pa.drainTimer = none

namespace State.Undrained

variable {s t : State}

theorem but (h : s.Undrained) (w : Fin 16) : s.UndrainedBut w := ⟨fun v _ => h.1 v, h.2⟩

theorem of_shape (h : s.Undrained) (hs : t.shape = s.shape) (hp : t.pa.drainTimer = s.pa.drainTimer) : t.Undrained :=
  ⟨fun v => by rw [State.state_of_shape hs]; exact h.1 v, hp.trans h.2⟩

/-- With no program staged, a part in which nothing drains has the law. -/
theorem drainLaw (h : s.Undrained) (hq : s.pa.stage = []) : DrainLaw s := by
  obtain ⟨hstate, htimer⟩ := h
  refine ⟨fun w hw => ?_, fun p rest hpr => ?_, ?_⟩
  · rw [hstate w] at hw; cases hw
  · rw [hq] at hpr; cases hpr
  · refine ⟨fun hsome => ?_, fun ⟨w, hw⟩ => ?_⟩
    · rw [htimer] at hsome; cases hsome
    · exact absurd (WState.isDraining_of_eq hw) (by rw [hstate w]; simp)

end State.Undrained

namespace State.UndrainedBut

variable {s t : State} {p : Program} {w : Fin 16}

/-- The one window that may drain is given another state. -/
theorem undrained (h : s.UndrainedBut w) (hw : (t.win w).state.isDraining = false)
    (hother : ∀ v, v ≠ w → t.win v = s.win v) (ht : t.pa.drainTimer = none) : t.Undrained := by
  refine ⟨fun v => ?_, ht⟩
  by_cases hv : v = w
  · rw [hv, hw]
  · rw [hother v hv]
    exact h.1 v hv

theorem setWinState (h : s.UndrainedBut w) {x : WState} (hx : x.isDraining = false) : (s.setWinState w x).Undrained :=
  h.undrained (by simpa [State.win_setWinState] using hx)
    (fun v hv => by rw [State.win_setWinState, if_neg hv.symm]) h.2

/-- An apply or a rejection leaves its window OPEN or DISABLED (R150, R151). -/
theorem applyHead (h : s.UndrainedBut p.window) (rest : List Program) (route : Nat) :
    (s.applyHead p rest route).Undrained := by
  refine h.undrained ?_ (fun v hv => s.applyHead_win_other p rest route hv) ?_
  · cases hc : s.conflict p with
    | none =>
      rw [State.applyHead_of_none hc, State.win_applyProgram, if_pos rfl]
      cases p.enable <;> rfl
    | some x =>
      rw [State.applyHead_of_some hc, State.win_rejectProgram, if_pos rfl]
      exact WState.isDraining_returned _
  · cases hc : s.conflict p with
    | none => rw [State.applyHead_of_none hc]; exact h.2
    | some x => rw [State.applyHead_of_some hc]; rfl

theorem of_shape (h : s.UndrainedBut w) (hs : t.shape = s.shape) (hp : t.pa = s.pa) : t.UndrainedBut w :=
  ⟨fun v hv => by rw [State.state_of_shape hs]; exact h.1 v hv, (congrArg PA.drainTimer hp).trans h.2⟩

/-- The head's window drains, alone, with the timer running in sub-state NORMAL only (R142, R143, R145). -/
theorem drains (h : s.UndrainedBut p.window) {rest : List Program} (hq : s.pa.stage = p :: rest) {sub : DrainSub}
    {tm : Option Timer} (htm : tm.isSome = true ↔ sub = .normal) :
    DrainLaw ((s.setWinState p.window (.draining sub)).setDrainTimer tm) := by
  obtain ⟨hstate, -⟩ := h
  set u := (s.setWinState p.window (.draining sub)).setDrainTimer tm with hu
  have hhead : (u.win p.window).state = .draining sub := by simp [hu, State.win_setWinState]
  have honly (v : Fin 16) (hv : (u.win v).state.isDraining = true) : v = p.window := by
    by_contra hne
    rw [hu, State.setDrainTimer_win, State.win_setWinState, if_neg (Ne.symm hne), hstate v hne] at hv
    cases hv
  have hnormal : (∃ w, (u.win w).state = .draining .normal) ↔ sub = .normal := by
    refine ⟨fun ⟨w, hw⟩ => ?_, fun hsub => ⟨p.window, hsub ▸ hhead⟩⟩
    rw [honly w (WState.isDraining_of_eq hw), hhead] at hw
    exact WState.draining.inj hw
  refine ⟨fun w hw => ⟨p, rest, hq, (honly w hw).symm⟩, fun q qs hqs => ?_, htm.trans hnormal.symm⟩
  obtain ⟨rfl, -⟩ := List.cons.inj (hq.symm.trans hqs)
  exact WState.isDraining_of_eq hhead

/-- A drain is forced: its window goes on DRAINING, with the timer stopped (R145). -/
theorem forced (h : s.UndrainedBut p.window) {rest : List Program} (hq : s.pa.stage = p :: rest) :
    DrainLaw (s.setWinState p.window (.draining .forced)) :=
  (h.drains hq (tm := none) (by simp)).of_shape rfl (by simp [← h.2])

end State.UndrainedBut

/-- Head processing, when nothing drains: it ends with an empty Stage Queue, or with the head's drain started (R140). -/
theorem State.Undrained.processHeads {s : State} (h : s.Undrained) (l : List Program) :
    DrainLaw (processHeads l s) := by
  induction l generalizing s with
  | nil => exact State.Undrained.drainLaw (s := s.setStage []) h rfl
  | cons p rest ih =>
    have hstaged : (s.setStage (p :: rest)).Undrained := h
    unfold Machine.processHeads
    dsimp only
    split
    · exact ih ((hstaged.but p.window).applyHead rest 1)
    · split
      · exact (hstaged.but p.window).drains rfl (by simp)
      · have hcut : ((s.setStage (p :: rest)).cutOver p.window).Undrained :=
          hstaged.of_shape (by simp) (by simp)
        exact ih ((hcut.but p.window).applyHead rest 4)

namespace DrainLaw

variable {s t : State}

/-! ### The law and its head -/

/-- Beside the head's window nothing drains, so with the timer stopped it is the only one (R146). -/
theorem undrainedBut (h : DrainLaw s) {p : Program} {rest : List Program} (hq : s.pa.stage = p :: rest) :
    (s.setDrainTimer none).UndrainedBut p.window := by
  obtain ⟨hhead, -, -⟩ := h
  refine ⟨fun v hv => ?_, rfl⟩
  by_contra hd
  obtain ⟨q, qs, hqs, rfl⟩ := hhead v (by simpa using hd)
  obtain ⟨rfl, -⟩ := List.cons.inj (hq.symm.trans hqs)
  exact hv rfl

theorem head_drains (h : DrainLaw s) {p : Program} {rest : List Program} (hq : s.pa.stage = p :: rest) :
    (s.win p.window).state.isDraining = true := by
  obtain ⟨-, hdrains, -⟩ := h
  exact hdrains p rest hq

/-- With no program staged nothing drains. -/
theorem undrained (h : DrainLaw s) (hq : s.pa.stage = []) : s.Undrained := by
  obtain ⟨hhead, -, htimer⟩ := h
  have hstate (v : Fin 16) : (s.win v).state.isDraining = false := by
    by_contra hd
    obtain ⟨p, rest, hpr, -⟩ := hhead v (by simpa using hd)
    rw [hq] at hpr
    cases hpr
  refine ⟨hstate, Option.not_isSome_iff_eq_none.1 fun hsome => ?_⟩
  obtain ⟨w, hw⟩ := htimer.1 hsome
  exact absurd (WState.isDraining_of_eq hw) (by rw [hstate w]; simp)

/-- Programs leave the Stage Queue behind its head, or join it there. -/
theorem of_head (h : DrainLaw s) {p : Program} {rest qs : List Program} (hq : s.pa.stage = p :: rest) :
    DrainLaw (s.setStage (p :: qs)) := by
  obtain ⟨hhead, hdrains, htimer⟩ := h
  refine ⟨fun w hw => ?_, fun q r hqr => ?_, htimer⟩
  · obtain ⟨q, r, hqr, hw⟩ := hhead w hw
    obtain ⟨rfl, -⟩ := List.cons.inj (hq.symm.trans hqr)
    exact ⟨p, qs, rfl, hw⟩
  · obtain ⟨rfl, -⟩ := List.cons.inj hqr
    exact hdrains p rest hq

/-! ### The end of an event -/

/-- The end of a drain: the timer is stopped, the window leaves DRAINING, and the next heads are processed (R144 to
R146). -/
theorem finishDrain (h : DrainLaw s) : DrainLaw s.finishDrain := by
  unfold State.finishDrain
  split
  · exact h
  · rename_i p rest hq
    split
    · exact ((h.undrainedBut hq).applyHead rest _).processHeads rest
    · exact h

theorem takeSamples (h : DrainLaw s) (r : Request) (link : Nat) (d : Decoded) (kept : Option Timer) :
    DrainLaw (s.takeSamples r link d kept) := by
  unfold State.takeSamples
  dsimp only
  split
  · exact DrainLaw.finishDrain (h.of_shape (by simp) (by simp))
  · exact h
  · exact h
  · exact h.of_shape (by simp) (by simp)

theorem classify (h : DrainLaw s) (r : Request) (link : Nat) (kept : Option Timer) :
    DrainLaw (s.classify r link kept) := by
  unfold State.classify
  split
  case h_4 => exact h.takeSamples ..
  all_goals exact h.of_shape (by simp) (by simp)

theorem release (h : DrainLaw s) : DrainLaw s.release := by
  unfold State.release
  split
  · exact h
  · exact h
  · rename_i x _
    have ht : DrainLaw (s.setHoldTimer none) := h
    exact ht.classify ..

theorem settle (h : DrainLaw s) (before : State) : DrainLaw (State.settle before s) := by
  have hrun : DrainLaw s.keepRun := h.of_shape (by simp) (by simp)
  unfold State.settle
  dsimp only
  split
  · exact hrun.finishDrain.release
  · exact hrun

/-! ### The rows -/

theorem present (h : DrainLaw s) (r : Request) : DrainLaw (s.present r) := by
  unfold State.present
  split
  · unfold State.accept
    refine DrainLaw.classify ?_ _ _ _
    exact h
  · exact h

theorem deliver (h : DrainLaw s) : DrainLaw s.deliver := by
  unfold State.deliver
  split
  · exact h
  · split <;> exact h

theorem holdExpiry (h : DrainLaw s) : DrainLaw s.holdExpiry := by
  unfold State.holdExpiry
  split
  · split
    · exact h.of_shape (by simp) (by simp)
    · exact h
  all_goals exact h

theorem idleEnd (h : DrainLaw s) (i : Fin 64) (a : Accum) : DrainLaw (s.idleEnd i a) := by
  unfold State.idleEnd
  split <;> exact h.of_shape (by simp) (by simp)

theorem idleExpiry (h : DrainLaw s) (w : Fin 16) (slot : Nat) : DrainLaw (s.idleExpiry w slot) := by
  unfold State.idleExpiry
  split
  · exact h
  · split
    · split
      · exact (h.idleEnd _ _).settle s
      · exact h
    all_goals exact h

end DrainLaw

theorem State.forceContexts_pa (s : State) (w : Fin 16) : (s.forceContexts w).pa = s.pa := by
  unfold State.forceContexts
  split
  · simp
  · dsimp only
    split <;> simp

theorem State.afterUnreachable_pa (s : State) : s.afterUnreachable.pa = s.pa := by
  simp [State.afterUnreachable]

namespace DrainLaw

variable {s t : State}

/-- The drain timer's expiry forces the drain before the end of its event (R145). -/
theorem drainExpiry (h : DrainLaw s) : DrainLaw s.drainExpiry := by
  unfold State.drainExpiry
  split
  · rename_i p rest t hq _
    split
    · dsimp only
      refine DrainLaw.settle (State.UndrainedBut.forced (rest := rest) ?_ ?_) s
      · exact (h.undrainedBut hq).of_shape (State.forceContexts_carries ..).shape (State.forceContexts_pa ..)
      · rw [State.forceContexts_pa]
        exact hq
    · exact h
  all_goals exact h

theorem commitEntry (h : DrainLaw s) : DrainLaw s.commitEntry := by
  unfold State.commitEntry
  split
  · exact h
  · rename_i i c _
    have hg : DrainLaw (s.grantCommit i c) := h.of_shape (by simp) (by simp)
    split
    · dsimp only
      split
      · exact (hg.of_shape (State.afterUnreachable_carries _).shape (State.afterUnreachable_pa _)).settle s
      · exact hg.settle s
    · exact h

theorem ingressEntry (h : DrainLaw s) : DrainLaw s.ingressEntry := by
  unfold State.ingressEntry
  split
  · exact h
  · exact h
  · split
    · exact h.of_shape (by simp) (by simp)
    · exact h

theorem issue (h : DrainLaw s) (ready : Bool) : DrainLaw (s.issue ready) := by
  unfold State.issue
  split
  · exact h
  · rename_i e _
    have hsend : DrainLaw (s.send e) := h.of_shape (State.shape_of_wt _ _ (s.send_frame e).1) (s.send_pa e)
    split
    · exact h.of_shape (by simp) (by simp)
    · split
      · exact hsend.of_shape (by simp) (by simp)
      · exact h

theorem memoryResponse (h : DrainLaw s) (st : LinkStatus) (d : Lanes) : DrainLaw (s.memoryResponse st d) := by
  unfold State.memoryResponse
  split
  · exact h
  · split
    · exact h.of_shape (by simp) (by simp)
    · exact h

theorem responseExpiry (h : DrainLaw s) : DrainLaw s.responseExpiry := by
  unfold State.responseExpiry
  split
  · split
    · exact h.of_shape (by simp) (by simp)
    · exact h
  all_goals exact h

/-- STAGE: the program is processed as the head, or joins behind the head (R139, R140). -/
theorem stageProgram (h : DrainLaw s) (p : Program) : DrainLaw (s.stageProgram p) := by
  unfold State.stageProgram
  split
  · rename_i hq
    exact ((h.undrained hq).processHeads [p]).release
  · rename_i q qs hq
    exact h.of_head hq

/-- WITHDRAW: the head's drain ends and the next heads are processed, or programs behind the head leave (R154, R155). -/
theorem withdrawAll (h : DrainLaw s) (w : Fin 16) : DrainLaw (s.withdrawAll w) := by
  unfold State.withdrawAll
  dsimp only
  split
  · exact h
  · rename_i p rest hq
    split
    · rename_i hw
      have hdraining : ((s.setDrainTimer none).win w).state.isDraining = true := hw ▸ h.head_drains hq
      rw [if_pos hdraining]
      exact (((hw ▸ h.undrainedBut hq).setWinState rfl).processHeads _).release
    · rename_i hw
      rw [hq, List.filter_cons_of_pos (by simpa using hw)]
      exact h.of_head hq

theorem flushWindow (h : DrainLaw s) (w : Fin 16) : DrainLaw (s.flushWindow w) := by
  unfold State.flushWindow
  refine DrainLaw.settle (h.of_shape ?_ ?_) s
  · split <;> simp
  · split <;> simp

end DrainLaw

/-- An engine reset empties the Stage Queue, stops the timer and returns every DRAINING window to OPEN (R157). -/
theorem State.undrained_engineResetBlocks (s : State) : s.engineResetBlocks.Undrained := by
  refine ⟨fun v => ?_, rfl⟩
  have hv : (s.engineResetBlocks.win v).state = if (s.win v).state.isDraining then .opened else (s.win v).state := by
    simp only [State.engineResetBlocks, State.win, Window.engineReset, getElem_mapV]
    rfl
  rw [hv]
  exact WState.isDraining_returned _

/-- A reset leaves every window DISABLED (R37, R158). -/
theorem State.undrained_resetBlocks (s : State) (hold : ResetHold) : (s.resetBlocks hold).Undrained := by
  refine ⟨fun v => ?_, rfl⟩
  have hv : (s.resetBlocks hold).win v = Window.reset := by simp [State.resetBlocks, State.reset, State.win]
  rw [hv]
  rfl

theorem rowRel_drainLaw : RowRel fun s t => DrainLaw s → DrainLaw t where
  refl _ h := h
  trans h g hs := g (h hs)
  registers _ hw _ _ _ hq h := h.of_shape (State.shape_of_wt _ _ hw) hq
  present _ r h := h.present r
  deliver _ h := h.deliver
  holdExpiry _ h := h.holdExpiry
  idleExpiry _ w slot h := h.idleExpiry w slot
  drainExpiry _ h := h.drainExpiry
  commitEntry _ h := h.commitEntry
  ingressEntry _ h := h.ingressEntry
  issue _ ready h := h.issue ready
  memoryResponse _ st d h := h.memoryResponse st d
  responseExpiry _ h := h.responseExpiry
  stage _ _ p _ _ h := h.stageProgram p
  withdraw _ w h := h.withdrawAll w
  flush _ w _ _ h := h.flushWindow w
  engineReset s _ := s.undrained_engineResetBlocks.drainLaw rfl
  release _ h := h.release
  resetBlocks s hold _ := (s.undrained_resetBlocks hold).drainLaw rfl

/-- Settles O56: a drain starts when nothing drains, and goes on or ends only as the head's. -/
theorem drainLawKept : Obligations.DrainLawKept := by
  unfold Obligations.DrainLawKept
  exact fun s t hs h => rowRel_drainLaw.step h hs

end Sys2Proof.Machine

/-! PROOF. The program record (R192): it carries every field of a program, and the checks of R138 are the only refusals. -/

namespace Sys2Proof.Machine

/-! ### The control byte -/

/-- The control byte of a program record by the bits it carries (R192). -/
def controlBits (enable : Bool) (f : SampleFormat) (spill discard replace restart : Bool) : Byte :=
  BitVec.ofNat 8 (bitNat enable 0 + 2 * f.code + bitNat spill 3 + bitNat discard 4 + bitNat replace 5 +
    bitNat restart 6)

theorem controlByte_eq (enable : Bool) (x : Fields) : controlByte enable x =
    controlBits enable x.format (decide (x.exhaust = .spill)) (decide (x.idleAction = .discard))
      (decide (x.overrun = .replace)) (decide (x.switch = .restart)) := rfl

/-- Each bit of the control byte reads back; bit 7 is 0 (R192). -/
theorem controlBits_reads (enable : Bool) (f : SampleFormat) (spill discard replace restart : Bool) :
    let c := controlBits enable f spill discard replace restart
    c.getLsbD 0 = enable ∧ formatOfBits (c.getLsbD 2) (c.getLsbD 1) = f ∧ c.getLsbD 3 = spill ∧
    c.getLsbD 4 = discard ∧ c.getLsbD 5 = replace ∧ c.getLsbD 6 = restart ∧ c.getLsbD 7 = false := by
  cases f <;> revert enable spill discard replace restart <;> decide

/-- What the control byte says of a program (R192). -/
theorem controlByte_reads (enable : Bool) (x : Fields) :
    let c := controlByte enable x
    c.getLsbD 0 = enable ∧ formatOfBits (c.getLsbD 2) (c.getLsbD 1) = x.format ∧
    (if c.getLsbD 3 then .spill else .hold) = x.exhaust ∧
    (if c.getLsbD 4 then .discard else .flushPartial) = x.idleAction ∧
    (if c.getLsbD 5 then .replace else .keep) = x.overrun ∧
    (if c.getLsbD 6 then .restart else .continue) = x.switch ∧ c.getLsbD 7 = false := by
  obtain ⟨henable, hformat, hspill, hdiscard, hreplace, hrestart, hreserved⟩ := controlBits_reads enable x.format
    (decide (x.exhaust = .spill)) (decide (x.idleAction = .discard)) (decide (x.overrun = .replace))
    (decide (x.switch = .restart))
  rw [← controlByte_eq] at henable hformat hspill hdiscard hreplace hrestart hreserved
  refine ⟨henable, hformat, ?_, ?_, ?_, ?_, hreserved⟩
  · rw [hspill]; cases x.exhaust <;> rfl
  · rw [hdiscard]; cases x.idleAction <;> rfl
  · rw [hreplace]; cases x.overrun <;> rfl
  · rw [hrestart]; cases x.switch <;> rfl

/-! ### The record -/

section
variable (w : Fin 16) (enable : Bool) (x : Fields)

/-- The index byte of a program record (R192). -/
theorem toNat_byteAt_programBytes : (byteAt (programBytes w enable x) 0).toNat = w.val := by
  have hindex : byteAt (programBytes w enable x) 0 = BitVec.ofNat 8 w.val := rfl
  rw [hindex, BitVec.toNat_ofNat]
  omega

theorem byteAt_programBytes_control : byteAt (programBytes w enable x) 1 = controlByte enable x := rfl

/-- The fields of a program read back from its record (R192). -/
theorem fieldsOf_programBytes : fieldsOf (programBytes w enable x) = x := by
  obtain ⟨-, hformat, hexhaust, hidle, hoverrun, hswitch, -⟩ := controlByte_reads enable x
  have hcapture : BitVec.ofNat 40 (fieldAt (programBytes w enable x) 2 5) = x.captureBase := ofNat_leNat_leBytes 5 _
  have hresult : BitVec.ofNat 40 (fieldAt (programBytes w enable x) 7 5) = x.resultBase := ofNat_leNat_leBytes 5 _
  have hbase : BitVec.ofNat 16 (fieldAt (programBytes w enable x) 12 2) = x.slotBase := ofNat_leNat_leBytes 2 _
  have hcount : BitVec.ofNat 16 (fieldAt (programBytes w enable x) 14 2) = x.slotCount := ofNat_leNat_leBytes 2 _
  have hratio : BitVec.ofNat 16 (fieldAt (programBytes w enable x) 16 2) = x.ratio := ofNat_leNat_leBytes 2 _
  have hshift : byteAt (programBytes w enable x) 18 = x.shift := rfl
  have hlimit : BitVec.ofNat 16 (fieldAt (programBytes w enable x) 19 2) = x.idleLimit := ofNat_leNat_leBytes 2 _
  unfold fieldsOf
  dsimp only
  rw [byteAt_programBytes_control, hcapture, hresult, hbase, hcount, hratio, hshift, hlimit, hformat, hexhaust, hidle,
    hoverrun, hswitch]

end

/-! ### The checks of R138 -/

theorem Fields.inRange_iff (x : Fields) : x.inRange = true ↔ 1 ≤ x.slotCount.toNat ∧ x.slotCount.toNat ≤ 256 ∧
    x.slotBase.toNat + x.slotCount.toNat ≤ 1024 ∧ 1 ≤ x.ratio.toNat ∧ x.ratio.toNat ≤ 512 ∧ x.shift.toNat ≤ 12 ∧
    x.captureBase.toNat % 64 = 0 ∧ x.resultBase.toNat % 64 = 0 := by
  rw [Fields.inRange, show Config.slotRecords = 1024 from rfl]
  simp only [Bool.and_eq_true, decide_eq_true_iff, and_assoc]

/-- A record whose index byte names no window (R138). -/
theorem stagedProgram_of_noWindow {a : List Byte} (h : 15 < (byteAt a 0).toNat) : stagedProgram a = none :=
  dif_neg (by omega)

/-- A record whose index byte names a window: the checks that hold for enable yes (R138). -/
theorem stagedProgram_of_window {a : List Byte} {w : Fin 16} (h : (byteAt a 0).toNat = w.val) : stagedProgram a =
    if (byteAt a 1).getLsbD 0 = true ∧ ¬((fieldsOf a).inRange = true ∧ (byteAt a 1).getLsbD 7 = false) then none
    else some ⟨w, (byteAt a 1).getLsbD 0, fieldsOf a⟩ := by
  have hw : (byteAt a 0).toNat < 16 := h ▸ w.isLt
  obtain rfl : ⟨(byteAt a 0).toNat, hw⟩ = w := Fin.ext h
  rw [stagedProgram, dif_pos hw]
  refine if_congr ?_ rfl rfl
  rw [Bool.and_eq_true, Bool.not_eq_true', ← Bool.not_eq_true, Bool.and_eq_true, Bool.not_eq_true']

/-- Settles O22, by what reads back from a record, and the checks in order. -/
theorem programRecordRoundTrip : Obligations.ProgramRecordRoundTrip := by
  unfold Obligations.ProgramRecordRoundTrip
  refine ⟨fun w enable x => ?_, fun a h => stagedProgram_of_noWindow h, fun a henable hreserved => ?_⟩
  · obtain ⟨henable, -, -, -, -, -, hreserved⟩ := controlByte_reads enable x
    rw [stagedProgram_of_window (toNat_byteAt_programBytes w enable x), byteAt_programBytes_control, henable, hreserved,
      fieldsOf_programBytes]
    simp only [and_true, Fields.inRange_iff]
  · by_cases hw : (byteAt a 0).toNat < 16
    · rw [stagedProgram_of_window (w := ⟨_, hw⟩) rfl]
      refine if_pos ⟨henable, fun ⟨_, hzero⟩ => ?_⟩
      exact Bool.false_ne_true (hzero.symm.trans hreserved)
    · exact stagedProgram_of_noWindow (by omega)

end Sys2Proof.Machine

/-! PROOF. Programs that are staged and withdrawn (R138 to R140, R142, R143, R154, R155): the Stage Queue only shortens
behind STAGE, and each command as its next state. -/

namespace Sys2Proof.Machine

/-! ### The Stage Queue only shortens -/

/-- Head processing leaves a last part of the queue it was given (R140). -/
theorem processHeads_stage (l : List Program) (s : State) : (processHeads l s).pa.stage <:+ l := by
  refine processHeads_induct (fun t => t.pa.stage <:+ l) (fun t p rest hq _ h => ?_) (fun t p _ _ _ _ h => ?_)
    (fun t p rest hq _ _ h => ?_) l s List.suffix_rfl
  · rw [State.applyHead_stage]
    exact (hq ▸ List.suffix_cons p rest).trans h
  · simpa using h
  · rw [State.applyHead_stage]
    exact (hq ▸ List.suffix_cons p rest).trans h

theorem State.finishDrain_stage (s : State) : s.finishDrain.pa.stage <:+ s.pa.stage := by
  unfold State.finishDrain
  split
  · exact List.suffix_rfl
  · rename_i p rest hq
    split
    · rw [hq]
      exact (processHeads_stage rest _).trans (List.suffix_cons p rest)
    · exact List.suffix_rfl

theorem State.takeSamples_stage (s : State) (r : Request) (link : Nat) (d : Decoded) (kept : Option Timer) :
    (s.takeSamples r link d kept).pa.stage <:+ s.pa.stage := by
  unfold State.takeSamples
  dsimp only
  split
  · refine (State.finishDrain_stage _).trans ?_
    simp
  all_goals simp

theorem State.classify_stage (s : State) (r : Request) (link : Nat) (kept : Option Timer) :
    (s.classify r link kept).pa.stage <:+ s.pa.stage := by
  unfold State.classify
  split
  case h_4 => exact s.takeSamples_stage ..
  all_goals simp

theorem State.release_stage (s : State) : s.release.pa.stage <:+ s.pa.stage := by
  unfold State.release
  split
  · exact List.suffix_rfl
  · exact List.suffix_rfl
  · exact (s.setHoldTimer none).classify_stage ..

/-! ### STAGE -/

section
variable {mdi : List Bool} {s : State} {a : List Byte} {p : Program}

/-- A STAGE frame that executes, as one next state. -/
theorem exec_stage (hl : s.Listening) (hx : Executes 0x10 mdi a) :
    exec (.stage mdi) s = .next ((stageEffect a (s.receive 0x10 mdi).floatMdo).1.store
      (stageEffect a (s.receive 0x10 mdi).floatMdo).2) :=
  congrArg Host.Outcome.next (State.selected_transact hl hx stageEffect)

theorem stageEffect_refused (h : stagedProgram a = none) (s : State) : stageEffect a s = (s, ⟨.badArg, []⟩) := by
  rw [stageEffect, h]
  rfl

/-- A program that passes the checks of R138, at a full Stage Queue and at one with room (R139). -/
theorem stageEffect_program (h : stagedProgram a = some p) (s : State) : stageEffect a s =
    if s.pa.stage.length < 4 then (s.stageProgram p, ⟨.ok, [BitVec.ofNat 8 (s.pa.stage.length + 1)]⟩)
    else (s, ⟨.qFull, []⟩) := by
  rw [stageEffect, h]
  rfl

/-- Behind a head the program joins at the tail (R139). -/
theorem State.stageProgram_behind (h : 0 < s.pa.stage.length) (p : Program) :
    s.stageProgram p = s.setStage (s.pa.stage ++ [p]) := by
  obtain ⟨q, qs, hq⟩ := List.exists_cons_of_length_pos h
  simp only [State.stageProgram, hq]

/-- The head for a window that decodes and holds contexts, under CONTINUE, starts its drain (R142). -/
theorem State.stageProgram_drains (hq : s.pa.stage = []) (hn : s.NoHeld) (hd : (s.win p.window).decodes = true)
    (hh : s.holdsContexts p.window = true) (hc : (s.win p.window).fields.switch = .continue) :
    s.stageProgram p = (s.setStage [p]).startDrain p.window := by
  have hdecodes : ((s.setStage [p]).win p.window).decodes = true := hd
  have hholds : (s.setStage [p]).holdsContexts p.window = true := hh
  have hcontinue : ((s.setStage [p]).win p.window).fields.switch = .continue := hc
  have hp : processHeads [p] s = (s.setStage [p]).startDrain p.window := by
    simp only [processHeads, hdecodes, hholds, hcontinue, Bool.not_true, Bool.or_self, Bool.false_eq_true, if_false]
  rw [State.stageProgram, hq]
  dsimp only
  rw [hp]
  exact State.release_of_noHeld hn

end

/-- Settles O24: the refusals, the place behind a head, and the start of a drain. -/
theorem stageQueuesOrDrains : Obligations.StageQueuesOrDrains := by
  unfold Obligations.StageQueuesOrDrains
  intro mdi s a hl hx
  rw [exec_stage hl hx]
  refine ⟨fun hrefused => ?_, fun p hp => ?_⟩
  · rw [stageEffect_refused hrefused]
    rfl
  rw [stageEffect_program hp]
  set u := (s.receive 0x10 mdi).floatMdo
  have hstage : u.pa.stage = s.pa.stage := rfl
  rw [hstage]
  refine ⟨fun hfull => ?_, fun hpos hroom => ?_, fun hq hn hopen hh hc => ?_⟩
  · rw [if_neg (by omega)]
    rfl
  · rw [if_pos hroom, State.stageProgram_behind (s := u) hpos]
    rfl
  · have hd : (u.win p.window).decodes = true := (Window.decodes_iff _).2 fun h => by cases hopen.symm.trans h
    rw [if_pos (by simp [hq]), State.stageProgram_drains (s := u) hq hn hd hh hc, hq]
    rfl

/-! ### WITHDRAW -/

section
variable {mdi : List Bool} {s : State} {b : Byte} {w : Fin 16}

/-- A WITHDRAW frame that executes, as one next state. -/
theorem exec_withdraw (hl : s.Listening) (hx : Executes 0x11 mdi [b]) :
    exec (.withdraw mdi) s = .next ((withdrawEffect [b] (s.receive 0x11 mdi).floatMdo).1.store
      (withdrawEffect [b] (s.receive 0x11 mdi).floatMdo).2) :=
  congrArg Host.Outcome.next (State.selected_transact hl hx withdrawEffect)

theorem withdrawEffect_refused (h : 15 < b.toNat) (s : State) : withdrawEffect [b] s = (s, ⟨.badArg, []⟩) := by
  have hb : windowArg (byteAt [b] 0) = none := (windowArg_none_iff b).2 h
  rw [withdrawEffect, hb]
  rfl

/-- WITHDRAW for window `w`: the reply counts its programs (R154). -/
theorem withdrawEffect_window (h : w.val = b.toNat) (s : State) : withdrawEffect [b] s =
    (s.withdrawAll w, ⟨.ok, [BitVec.ofNat 8 (s.pa.stage.countP (fun p => decide (p.window = w)))]⟩) := by
  have hb : windowArg (byteAt [b] 0) = some w := (windowArg_iff b w).2 h.symm
  rw [withdrawEffect, hb]
  rfl

/-- The programs that stay are for other windows (R154). -/
theorem State.withdrawAll_stage (s : State) (w : Fin 16) :
    (s.withdrawAll w).pa.stage <:+ s.pa.stage.filter (fun p => decide (p.window ≠ w)) := by
  unfold State.withdrawAll
  dsimp only
  split
  · rename_i hq
    simp [hq]
  · split
    · exact (State.release_stage _).trans (processHeads_stage ..)
    · exact List.suffix_rfl

/-- When the head stays, only the programs behind it leave (R154). -/
theorem State.withdrawAll_behind (h : ∀ p rest, s.pa.stage = p :: rest → p.window ≠ w) :
    s.withdrawAll w = s.setStage (s.pa.stage.filter (fun p => decide (p.window ≠ w))) := by
  unfold State.withdrawAll
  dsimp only
  split
  · rename_i hq
    rw [hq, List.filter_nil, ← hq]
    rfl
  · rename_i p rest hq
    exact if_neg (h p rest hq)

/-- When the head leaves and no program is left, its drain ends with the window OPEN (R155). -/
theorem State.withdrawAll_last {p : Program} {rest : List Program} (hq : s.pa.stage = p :: rest) (hw : p.window = w)
    (hothers : s.pa.stage.filter (fun p => decide (p.window ≠ w)) = []) (hn : s.NoHeld)
    (hd : (s.win w).state.isDraining = true) :
    s.withdrawAll w = ((s.setDrainTimer none).setWinState w .opened).setStage [] := by
  have hdraining : ((s.setDrainTimer none).win w).state.isDraining = true := hd
  have hheld : (((s.setDrainTimer none).setWinState w .opened).setStage []).NoHeld := hn
  unfold State.withdrawAll
  rw [hothers, hq]
  dsimp only
  rw [if_pos hw, if_pos hdraining, processHeads, State.release_of_noHeld hheld]

end

/-- Settles O26: the programs that stay, and the two exact next states. -/
theorem withdrawRemovesThePrograms : Obligations.WithdrawRemovesThePrograms := by
  unfold Obligations.WithdrawRemovesThePrograms
  intro mdi s b hl hx
  rw [exec_withdraw hl hx]
  refine ⟨fun hrefused => ?_, fun w hb => ?_⟩
  · rw [withdrawEffect_refused hrefused]
    rfl
  rw [withdrawEffect_window hb]
  set u := (s.receive 0x11 mdi).floatMdo
  intro others reply
  refine ⟨⟨_, rfl, rfl, fun p hp => ?_⟩, fun hstays => ?_, fun p rest hq hw hothers hn hd => ?_⟩
  · have hmem := (u.withdrawAll_stage w).subset hp
    simpa using (List.mem_filter.1 hmem).2
  · rw [State.withdrawAll_behind (s := u) hstays]
    rfl
  · rw [State.withdrawAll_last (s := u) hq hw hothers hn hd]
    rfl

end Sys2Proof.Machine

/-! PROOF. The Event Queue (R159 to R164, R168): what a record, a POP and a new alert mask make of it, and the two
operations that O14 and O15 speak of. -/

namespace Sys2Proof.Machine

/-! ### ALERT# (R168) -/

theorem alertLevel_iff (events : List EventRecord) (lost : BitVec 16) (mask : BitVec 5) :
    alertLevel events lost mask = true ↔ (∃ r ∈ events, classEnabled mask r.cls = true) ∨ lost ≠ 0 := by
  simp [alertLevel]

/-- ALERT# has the level that the records, the lost count and the mask give it (R168). -/
def EQ.Levelled (q : EQ) : Prop := q.alert = alertLevel q.events q.lost q.mask

theorem EQ.levelled_iff (q : EQ) :
    q.Levelled ↔ (q.alert = true ↔ (∃ r ∈ q.events, classEnabled q.mask r.cls = true) ∨ q.lost ≠ 0) := by
  rw [EQ.Levelled, Bool.eq_iff_iff, alertLevel_iff]

theorem alertLaw_iff (s : State) : AlertLaw s ↔ s.evq.Levelled := s.evq.levelled_iff.symm

theorem EQ.levelled_evalAlert (q : EQ) : q.evalAlert.Levelled := rfl

theorem EQ.levelled_take (q : EQ) (r : EventRecord) : (q.take r).Levelled := q.take_alert r

theorem EQ.levelled_pop (q : EQ) (now : Time) : (q.pop now).Levelled := EQ.levelled_evalAlert _

/-! ### A record (R160, R161) -/

/-- The lost count stops at 65535 (R161). -/
theorem toNat_lostPlusOne (lost : BitVec 16) : (lostPlusOne lost).toNat = min 65535 (lost.toNat + 1) := by
  unfold lostPlusOne
  split
  · rename_i hfull
    rw [hfull]
    rfl
  · bv_omega

/-- Settles O14, by whether 32 records are queued. -/
theorem recordIsQueuedOrCounted : Obligations.RecordIsQueuedOrCounted := by
  unfold Obligations.RecordIsQueuedOrCounted
  intro s k w slot d n
  let r : EventRecord := ⟨k, k.cls, w, slot, s.mp.timebase, d, BitVec.ofNat 16 n⟩
  refine ⟨s.evq.take r, rfl, s.evq.take_mask r, (EQ.levelled_iff _).1 (s.evq.levelled_take r),
    fun hroom => ⟨?_, ?_⟩, fun hfull => ⟨?_, ?_⟩⟩
  · rw [EQ.take_lost, if_pos hroom]
  · rw [EQ.take_events, if_pos hroom]
  · rw [EQ.take_events, if_neg (Nat.not_lt.2 hfull)]
  · rw [EQ.take_lost, if_neg (Nat.not_lt.2 hfull), toNat_lostPlusOne]

/-! ### POP_EVENT (R162 to R164) -/

/-- The record of the losses that a POP appends (R164). -/
def lossRecord (now : Time) (lost : BitVec 16) : EventRecord :=
  ⟨.eventsLost, .system, none, none, now, lost.setWidth 32, 0⟩

theorem EQ.pop_lost (q : EQ) (now : Time) : (q.pop now).lost = 0 := by
  unfold EQ.pop
  dsimp only
  split
  · assumption
  · rfl

/-- With a lost count above 0, EVENTS_LOST takes the freed position (R164). -/
theorem EQ.pop_events (q : EQ) (now : Time) :
    (q.pop now).events = if q.lost = 0 then q.events.tail else q.events.tail ++ [lossRecord now q.lost] := by
  unfold EQ.pop
  dsimp only
  split <;> rfl

section
variable {s : State}

theorem popEventEffect_empty (h : s.evq.events = []) (a : List Byte) : popEventEffect a s = (s, ⟨.empty, []⟩) := by
  unfold popEventEffect
  rw [h]
  rfl

theorem popEventEffect_head {r : EventRecord} {rest : List EventRecord} (h : s.evq.events = r :: rest)
    (a : List Byte) : popEventEffect a s = ({ s with evq := s.evq.pop s.mp.timebase }, ⟨.ok, r.bytes⟩) := by
  unfold popEventEffect
  rw [h]
  rfl

/-- A POP_EVENT frame that executes, as one next state. -/
theorem exec_popEvent {mdi : List Bool} (hl : s.Listening) (hx : Executes 0x30 mdi []) :
    exec (.popEvent mdi) s = .next ((popEventEffect [] (s.receive 0x30 mdi).floatMdo).1.store
      (popEventEffect [] (s.receive 0x30 mdi).floatMdo).2) :=
  congrArg Host.Outcome.next (State.selected_transact hl hx popEventEffect)

end

/-- Settles O15, by whether a record is queued, and by the lost count. -/
theorem popEventReturnsTheHead : Obligations.PopEventReturnsTheHead := by
  unfold Obligations.PopEventReturnsTheHead
  refine ⟨fun mdi s hl hx hempty => ?_, fun mdi s r rest hl hx hhead => ?_⟩
  · rw [exec_popEvent hl hx, popEventEffect_empty (s := (s.receive 0x30 mdi).floatMdo) hempty]
    rfl
  · have hnone : (s.evq.pop s.mp.timebase).lost = 0 := s.evq.pop_lost _
    have hlevel := (EQ.levelled_iff _).1 (s.evq.levelled_pop s.mp.timebase)
    refine ⟨s.evq.pop s.mp.timebase, ?_, s.evq.pop_mask _, hnone, ?_, fun hlost => ?_, fun hlost => ?_⟩
    · rw [exec_popEvent hl hx, popEventEffect_head (s := (s.receive 0x30 mdi).floatMdo) hhead]
      rfl
    · simpa [hnone] using hlevel
    · rw [EQ.pop_events, if_pos hlost, hhead, List.tail_cons]
    · rw [EQ.pop_events, if_neg hlost, hhead, List.tail_cons]
      rfl

end Sys2Proof.Machine

/-! PROOF. What a step can do to the Event Queue is said once, as a run of changes; the alert law (R168) and the loss
law (R161) with the capacity (R160) follow from the changes. -/

namespace Sys2Proof.Machine

/-! ### What a step can do to the Event Queue -/

/-- One change of the Event Queue. -/
inductive EQ.Move (q : EQ) : EQ → Prop where
  /-- A block hands it a record (R160, R161). -/
  | taken (r : EventRecord) : EQ.Move q (q.take r)
  /-- POP_EVENT takes its head (R162, R164). -/
  | popped (now : Time) (h : q.events ≠ []) : EQ.Move q (q.pop now)
  /-- SET_TIMERS sets the alert mask (R189). -/
  | masked (mask : BitVec 5) : EQ.Move q (EQ.evalAlert { q with mask := mask })
  /-- A reset (R170). -/
  | cleared : EQ.Move q State.reset.evq

/-- Changes of the Event Queue, one after another. -/
def EQ.Moves : EQ → EQ → Prop := Relation.ReflTransGen EQ.Move

namespace EQ.Moves

variable {p q r : EQ}

theorem refl (q : EQ) : EQ.Moves q q := Relation.ReflTransGen.refl

theorem trans (h : EQ.Moves p q) (g : EQ.Moves q r) : EQ.Moves p r := Relation.ReflTransGen.trans h g

theorem of_move (h : EQ.Move p q) : EQ.Moves p q := Relation.ReflTransGen.single h

/-- Records that the queue takes one after another. -/
theorem of_grows (h : EQ.Grows p q) : EQ.Moves p q := by
  induction h with
  | refl => exact .refl p
  | take _ r ih => exact ih.trans (.of_move (.taken r))

/-- What one change keeps, a step keeps. -/
theorem keeps {P : EQ → Prop} (one : ∀ p q, EQ.Move p q → P p → P q) (h : EQ.Moves p q) (hp : P p) : P q := by
  induction h with
  | refl => exact hp
  | tail _ hm ih => exact one _ _ hm ih

end EQ.Moves

/-! ### The rows of the link, the arbiter and the timers -/

theorem State.present_grows (s : State) (r : Request) : EQ.Grows s.evq (s.present r).evq := by
  unfold State.present
  split
  · unfold State.accept
    exact .after (by rfl) (State.classify_grows ..)
  · exact .refl _

theorem State.deliver_evq (s : State) : s.deliver.evq = s.evq := by
  unfold State.deliver
  split
  · rfl
  · split <;> rfl

theorem State.holdExpiry_grows (s : State) : EQ.Grows s.evq s.holdExpiry.evq := by
  unfold State.holdExpiry
  split
  · split
    · exact State.spill_grows (s.setHoldTimer none) ..
    · exact .refl _
  all_goals exact .refl _

theorem State.idleEnd_grows (s : State) (i : Fin 64) (a : Accum) : EQ.Grows s.evq (s.idleEnd i a).evq := by
  unfold State.idleEnd
  split
  · exact s.complete_grows i true false
  · exact State.record_grows ((s.setCtx i .free).drop a.window a.count) ..

theorem State.idleExpiry_grows (s : State) (w : Fin 16) (slot : Nat) : EQ.Grows s.evq (s.idleExpiry w slot).evq := by
  unfold State.idleExpiry
  split
  · exact .refl _
  · split
    · split
      · exact (s.idleEnd_grows ..).trans (State.settle_grows ..)
      · exact .refl _
    all_goals exact .refl _

theorem State.forceContexts_grows (s : State) (w : Fin 16) : EQ.Grows s.evq (s.forceContexts w).evq := by
  unfold State.forceContexts
  split
  · exact s.completeAll_grows ..
  · have hdiscard : ((s.openInOrder w).foldl (fun t i => t.discard w i) s).evq = s.evq := by simp
    dsimp only
    split
    · exact .of_eq hdiscard
    · exact .after hdiscard (State.record_grows ..)

theorem State.drainExpiry_grows (s : State) : EQ.Grows s.evq s.drainExpiry.evq := by
  unfold State.drainExpiry
  split
  · split
    · refine .trans ?_ (State.settle_grows ..)
      exact (State.record_grows (s.setDrainTimer none) ..).trans (State.forceContexts_grows ..)
    · exact .refl _
  all_goals exact .refl _

theorem State.afterUnreachable_grows (s : State) : EQ.Grows s.evq s.afterUnreachable.evq :=
  ((keepTests_grows _ { s with freeIdx := s.freeIdx + 1 }).trans (State.issuePoints_grows _)).trans
    (State.keepRun_grows _)

theorem State.commitEntry_grows (s : State) : EQ.Grows s.evq s.commitEntry.evq := by
  unfold State.commitEntry
  split
  · exact .refl _
  · rename_i i c _
    have hgrant := s.grantCommit_grows i c
    dsimp only
    split_ifs
    · exact (hgrant.trans (State.afterUnreachable_grows _)).trans (State.settle_grows ..)
    · exact hgrant.trans (State.settle_grows ..)
    · exact .refl _

theorem State.ingressEntry_evq (s : State) : s.ingressEntry.evq = s.evq := by
  unfold State.ingressEntry
  split
  · rfl
  · rfl
  · split <;> simp

theorem State.send_grows (s : State) (e : EgressEntry) : EQ.Grows s.evq (s.send e).evq := by
  unfold State.send
  dsimp only
  split
  · exact .after (by rfl) (State.startTimer_grows _)
  · exact .refl _

theorem State.issue_grows (s : State) (ready : Bool) : EQ.Grows s.evq (s.issue ready).evq := by
  unfold State.issue
  split
  · exact .refl _
  · split_ifs
    · exact s.issuePoints_grows
    · exact (s.send_grows _).trans (State.issuePoints_grows _)
    · exact .refl _

theorem State.memoryResponse_grows (s : State) (st : LinkStatus) (d : Lanes) :
    EQ.Grows s.evq (s.memoryResponse st d).evq := by
  unfold State.memoryResponse
  split
  · exact State.record_grows (s.setAbandoned _) ..
  · split
    · exact (s.completeEntry_grows ..).trans (State.startTimer_grows _)
    · exact s.record_grows ..

theorem State.responseExpiry_grows (s : State) : EQ.Grows s.evq s.responseExpiry.evq := by
  unfold State.responseExpiry
  split
  · split
    · exact (s.timeoutEntry_grows _).trans (State.startTimer_grows _)
    · exact .refl _
  all_goals exact .refl _

/-! ### The rows of the management port -/

theorem State.stageProgram_grows (s : State) (p : Program) : EQ.Grows s.evq (s.stageProgram p).evq := by
  unfold State.stageProgram
  split
  · exact (processHeads_grows ..).trans (State.release_grows _)
  · exact .refl _

theorem State.withdrawAll_grows (s : State) (w : Fin 16) : EQ.Grows s.evq (s.withdrawAll w).evq := by
  unfold State.withdrawAll
  dsimp only
  split
  · exact .refl _
  · split
    · refine .trans (.after ?_ (processHeads_grows ..)) (State.release_grows _)
      split <;> rfl
    · exact .refl _

theorem State.flushWindow_grows (s : State) (w : Fin 16) : EQ.Grows s.evq (s.flushWindow w).evq := by
  have hcomplete := s.completeAll_grows (s.openInOrder w) true true
  unfold State.flushWindow
  dsimp only
  refine .trans ?_ (State.settle_grows ..)
  split
  · exact hcomplete.trans (State.record_grows (State.setFlush _ w _) ..)
  · exact hcomplete

/-- The effect of a command is a run of changes of the Event Queue. -/
def EffectMovesQueue (effect : List Byte → State → State × Reply) : Prop :=
  ∀ args s, EQ.Moves s.evq (effect args s).1.evq

namespace EffectMovesQueue

theorem ite {c : Prop} [Decidable c] {f g : List Byte → State → State × Reply} (hf : EffectMovesQueue f)
    (hg : EffectMovesQueue g) : EffectMovesQueue (if c then f else g) :=
  iteInduction (fun _ => hf) fun _ => hg

/-- A command that hands EQ records at most. -/
theorem of_grows {f : List Byte → State → State × Reply} (h : ∀ args s, EQ.Grows s.evq (f args s).1.evq) :
    EffectMovesQueue f := fun args s => .of_grows (h args s)

/-- A command that does not touch the Event Queue. -/
theorem of_eq {f : List Byte → State → State × Reply} (h : ∀ args s, (f args s).1.evq = s.evq) :
    EffectMovesQueue f := of_grows fun args s => .of_eq (h args s)

theorem stage : EffectMovesQueue stageEffect := of_grows fun args s => by
  unfold stageEffect
  split
  · exact .refl _
  · split
    · exact s.stageProgram_grows _
    · exact .refl _

theorem withdraw : EffectMovesQueue withdrawEffect := of_grows fun args s => by
  unfold withdrawEffect
  split
  · exact .refl _
  · exact s.withdrawAll_grows _

theorem flush : EffectMovesQueue flushEffect := of_grows fun args s => by
  unfold flushEffect
  split
  · exact .refl _
  · split_ifs
    · exact .refl _
    · exact .refl _
    · exact s.flushWindow_grows _

theorem queryWindow : EffectMovesQueue queryWindowEffect := of_eq fun args s => by
  unfold queryWindowEffect; split <;> rfl

theorem setCorrection : EffectMovesQueue setCorrectionEffect := of_eq fun args s => by
  unfold setCorrectionEffect; split <;> rfl

theorem setMonitor : EffectMovesQueue setMonitorEffect := of_eq fun args s => by
  unfold setMonitorEffect; split <;> rfl

theorem releaseMonitor : EffectMovesQueue releaseMonitorEffect := of_eq fun args s => by
  unfold releaseMonitorEffect; split <;> rfl

theorem popEvent : EffectMovesQueue popEventEffect := by
  intro args s
  cases h : s.evq.events with
  | nil => rw [popEventEffect_empty h]; exact .refl _
  | cons r rest => rw [popEventEffect_head h]; exact .of_move (.popped s.mp.timebase (by simp [h]))

theorem setTimers : EffectMovesQueue setTimersEffect := by
  intro args s
  unfold setTimersEffect
  split
  · exact .refl _
  · exact .of_move (.masked _)

/-- ENGINE_RESET leaves the queue to its record, and to those of the release (R169, R185). -/
theorem engineReset : EffectMovesQueue engineResetEffect := of_grows fun _ s =>
  (s.engineResetBlocks.record_grows ..).trans (State.release_grows _)

/-- Every command of the port (10.4). -/
theorem command (code : Byte) : EffectMovesQueue (commandEffect code) := by
  have reply (f : State → Reply) : EffectMovesQueue (fun _ s => (s, f s)) := of_eq fun _ _ => rfl
  exact .ite (reply _) <| .ite (reply _) <| .ite stage <| .ite withdraw <| .ite flush <| .ite queryWindow <|
    .ite (reply _) <| .ite setCorrection <| .ite setMonitor <| .ite releaseMonitor <| .ite popEvent <|
    .ite (reply _) <| .ite setTimers <| .ite engineReset (reply _)

end EffectMovesQueue

/-- A transaction does what its command does, or nothing (R175). -/
theorem State.transact_eqMoves (s : State) (code : Byte) (mdi : List Bool) :
    EQ.Moves s.evq (s.transact code mdi (commandEffect code)).evq := by
  unfold State.transact
  dsimp only
  cases judge (keptBytes code mdi)
  case run args => exact EffectMovesQueue.command code args (s.receive code mdi).floatMdo
  all_goals exact .refl _

theorem State.transaction_eqMoves (s : State) (code : Byte) (mdi : List Bool) :
    EQ.Moves s.evq (s.transaction code mdi).evq := by
  unfold State.transaction
  split
  · exact .refl _
  · exact s.transact_eqMoves code mdi

theorem State.shortPeriod_eqMoves (s : State) (mdi : List Bool) : EQ.Moves s.evq (s.shortPeriod mdi).evq := by
  unfold State.shortPeriod
  split
  · exact .refl _
  · exact s.transaction_eqMoves _ _

/-! ### Every step -/

section
variable (s : State)

theorem State.active_eqMoves {f : State → State} (hf : EQ.Moves s.evq (f s).evq) :
    EQ.Moves s.evq (s.active f).evq := by
  unfold State.active
  split
  · exact hf
  · exact .refl _

theorem State.selected_eqMoves {f : State → State} (hf : EQ.Moves s.evq (f s).evq) :
    EQ.Moves s.evq (s.selected f).evq := by
  unfold State.selected
  split
  · exact .refl _
  · exact s.active_eqMoves hf

/-- A row of the link, the arbiter or the timers hands EQ records at most. -/
theorem State.active_eqMoves_of_grows {f : State → State} (hf : EQ.Grows s.evq (f s).evq) :
    EQ.Moves s.evq (s.active f).evq := s.active_eqMoves (.of_grows hf)

/-- A row of the port that runs the command of `code`. -/
theorem State.command_eqMoves (code : Byte) (mdi : List Bool) :
    EQ.Moves s.evq (s.selected (·.transact code mdi (commandEffect code))).evq :=
  s.selected_eqMoves (s.transact_eqMoves code mdi)

theorem State.takeRst_eqMoves : EQ.Moves s.evq s.takeRst.evq := by
  unfold State.takeRst
  split <;> exact .of_move .cleared

theorem State.releaseReset_eqMoves : EQ.Moves s.evq s.releaseReset.evq := by
  unfold State.releaseReset
  split
  · exact .refl _
  · exact .of_move .cleared
  · exact .refl _

theorem State.tick_evq : s.tick.evq = s.evq := by
  unfold State.tick
  split <;> rfl

theorem State.beginPeriod_evq : s.beginPeriod.evq = s.evq := by
  unfold State.beginPeriod
  split <;> rfl

end

theorem execRstAssert_eqMoves {low : Nat} {s t : State} (h : execRstAssert low s = .next t) :
    EQ.Moves s.evq t.evq := by
  unfold execRstAssert at h
  dsimp only at h
  split_ifs at h <;> cases h
  · exact s.takeRst_eqMoves
  · exact State.takeRst_eqMoves { s with freeIdx := s.freeIdx + 1 }
  · exact .refl _

theorem execResponseRead_eqMoves {p : ReadPeriod} {s t : State} (h : execResponseRead p s = .next t) :
    EQ.Moves s.evq t.evq := by
  cases p <;> cases h
  case read => exact s.selected_eqMoves (.refl _)
  case short => exact s.selected_eqMoves (s.shortPeriod_eqMoves _)
  case begun => exact .of_grows (.of_eq s.beginPeriod_evq)

/-- Every command is a run of changes of the Event Queue. -/
theorem exec_eqMoves (c : Instr) {s t : State} (h : exec c s = .next t) : EQ.Moves s.evq t.evq := by
  cases c
  case rstAssert => exact execRstAssert_eqMoves h
  case responseRead => exact execResponseRead_eqMoves h
  all_goals cases h
  case ingressRequest => exact s.active_eqMoves_of_grows (s.present_grows _)
  case holdTimerExpiry => exact s.active_eqMoves_of_grows s.holdExpiry_grows
  case idleExpiry => exact s.active_eqMoves_of_grows (s.idleExpiry_grows _ _)
  case commitEntry => exact s.active_eqMoves_of_grows s.commitEntry_grows
  case ingressEntry => exact s.active_eqMoves_of_grows (.of_eq s.ingressEntry_evq)
  case issue => exact s.active_eqMoves_of_grows (s.issue_grows _)
  case egressResponse => exact s.active_eqMoves_of_grows (s.memoryResponse_grows _ _)
  case responseTimeout => exact s.active_eqMoves_of_grows s.responseExpiry_grows
  case deliverResponse => exact s.active_eqMoves_of_grows (.of_eq s.deliver_evq)
  case drainTimerExpiry => exact s.active_eqMoves_of_grows s.drainExpiry_grows
  case unknownCommand => exact s.selected_eqMoves (s.transaction_eqMoves _ _)
  case timebaseTick => exact .of_grows (.of_eq s.tick_evq)
  case powerOnReset => exact .of_move .cleared
  case resetRelease => exact s.releaseReset_eqMoves
  case ident mdi => exact s.command_eqMoves 0x01 mdi
  case readTime mdi => exact s.command_eqMoves 0x02 mdi
  case stage mdi => exact s.command_eqMoves 0x10 mdi
  case withdraw mdi => exact s.command_eqMoves 0x11 mdi
  case flush mdi => exact s.command_eqMoves 0x12 mdi
  case queryWindow mdi => exact s.command_eqMoves 0x13 mdi
  case queryPool mdi => exact s.command_eqMoves 0x14 mdi
  case setCorrection mdi => exact s.command_eqMoves 0x20 mdi
  case setMonitor mdi => exact s.command_eqMoves 0x21 mdi
  case releaseMonitor mdi => exact s.command_eqMoves 0x22 mdi
  case popEvent mdi => exact s.command_eqMoves 0x30 mdi
  case eventStatus mdi => exact s.command_eqMoves 0x31 mdi
  case setTimers mdi => exact s.command_eqMoves 0x40 mdi
  case engineReset mdi => exact s.command_eqMoves 0x41 mdi

/-- Every step is a run of changes of the Event Queue. -/
theorem step_eqMoves {s t : State} (h : step s = .next t) : EQ.Moves s.evq t.evq := by
  unfold step at h
  split at h
  · cases h; exact .refl _
  · rename_i c rest _
    exact exec_eqMoves (s := { s with pending := rest }) c h

/-! ### The alert law (R168) -/

/-- Every change ends with ALERT# at its level, a reset with an empty queue and ALERT# deasserted. -/
theorem EQ.Move.levelled {p q : EQ} (h : EQ.Move p q) : q.Levelled := by
  cases h with
  | taken r => exact p.levelled_take r
  | popped now _ => exact p.levelled_pop now
  | masked => exact EQ.levelled_evalAlert _
  | cleared => rfl

/-- Settles O48: every change of the Event Queue ends with ALERT# at its level. -/
theorem alertLawKept : Obligations.AlertLawKept := by
  unfold Obligations.AlertLawKept
  intro s t hs h
  rw [alertLaw_iff] at hs ⊢
  exact (step_eqMoves h).keeps (fun _ _ hm _ => hm.levelled) hs

/-! ### The loss law (R161) and the capacity (R160) -/

/-- At most 32 records are queued, and 32 while some are counted as lost (R160, R161). -/
def EQ.Bounded (q : EQ) : Prop := q.events.length ≤ 32 ∧ (q.lost ≠ 0 → q.events.length = 32)

theorem lossLaw_iff (s : State) : LossLaw s ↔ s.evq.Bounded := Iff.rfl

/-- A record is counted as lost only with 32 queued (R161). -/
theorem EQ.Bounded.take {q : EQ} (h : q.Bounded) (r : EventRecord) : (q.take r).Bounded := by
  obtain ⟨hcapacity, hloss⟩ := h
  rw [EQ.Bounded, EQ.take_events, EQ.take_lost]
  by_cases hroom : q.events.length < 32
  · rw [if_pos hroom, if_pos hroom, List.length_append, List.length_singleton]
    refine ⟨hroom, fun hlost => ?_⟩
    have hfull := hloss hlost
    omega
  · rw [if_neg hroom, if_neg hroom]
    exact ⟨hcapacity, fun _ => by omega⟩

/-- A POP ends with no loss counted, and its record of the losses takes the position it freed (R164). -/
theorem EQ.Bounded.pop {q : EQ} (h : q.Bounded) (now : Time) : (q.pop now).Bounded := by
  obtain ⟨hcapacity, hloss⟩ := h
  refine ⟨?_, fun hlost => absurd (q.pop_lost now) hlost⟩
  rw [EQ.pop_events]
  split
  · rw [List.length_tail]
    omega
  · rename_i hlost
    have hfull := hloss hlost
    rw [List.length_append, List.length_tail, List.length_singleton]
    omega

theorem EQ.Bounded.move {p q : EQ} (h : p.Bounded) (hm : EQ.Move p q) : q.Bounded := by
  cases hm with
  | taken r => exact h.take r
  | popped now _ => exact h.pop now
  | masked => exact h
  | cleared => exact ⟨Nat.zero_le _, fun hlost => absurd rfl hlost⟩

/-- Settles O49: a record is counted as lost only with 32 queued, and a POP counts none afterwards. -/
theorem lossLawKept : Obligations.LossLawKept := by
  unfold Obligations.LossLawKept
  intro s t hs h
  rw [lossLaw_iff] at hs ⊢
  exact (step_eqMoves h).keeps (fun _ _ hm hp => hp.move hm) hs

end Sys2Proof.Machine

/-! PROOF. The part right after a reset (R17, R37, R63, R82, R98, R115, R136, R158, R170, R190): its lists and queues are
empty, its windows DISABLED, its contexts FREE and its timers stopped, so every law holds there. -/

namespace Sys2Proof.Machine

/-! ### What the reset state reads -/

@[simp] theorem State.win_reset (w : Fin 16) : State.reset.win w = Window.reset := by simp [State.reset, State.win]

@[simp] theorem State.ctx_reset (i : Fin 64) : State.reset.ctx i = .free := by simp [State.reset, State.ctx, AE.reset]

@[simp] theorem State.mon_reset (m : Fin 4) : State.reset.mon m = Monitor.reset := by simp [State.reset, State.mon]

@[simp] theorem Window.decodes_reset : Window.reset.decodes = false := rfl

theorem State.holdsContexts_reset (w : Fin 16) : State.reset.holdsContexts w = false :=
  (State.holdsContexts_false_iff _ w).2 fun i => by rw [State.ctx_reset]; rfl

/-! ### The laws -/

theorem alertLaw_reset : AlertLaw State.reset := (alertLaw_iff _).2 rfl

theorem lossLaw_reset : LossLaw State.reset := ⟨Nat.zero_le 32, fun h => absurd rfl h⟩

theorem capacityLaw_reset : CapacityLaw State.reset := ⟨Nat.zero_le 16, Nat.zero_le 16, Nat.zero_le 4⟩

theorem issueLaw_reset : IssueLaw State.reset := Nat.zero_le 16

theorem queueOrderLaw_reset : QueueOrderLaw State.reset := ⟨[], [], rfl, by simp, by simp⟩

/-- No entry is ISSUED, and the response timer is stopped (R136). -/
theorem responseTimerLaw_reset : ResponseTimerLaw State.reset := by
  have hqueue : State.reset.eg.queue = [] := rfl
  have htimer : State.reset.eg.timer = none := rfl
  simp [ResponseTimerLaw, hqueue, htimer]

/-- No request is held, and the hold timer is stopped (R17, R63). -/
theorem holdTimerLaw_reset : HoldTimerLaw State.reset := by
  have hintake : State.reset.ig.intake = .opened := rfl
  have htimer : State.reset.ae.holdTimer = none := rfl
  simp [HoldTimerLaw, hintake, htimer]

/-- The Commit List is empty, and no context is COMMITTING (R63). -/
theorem commitListLaw_reset : CommitListLaw State.reset := by
  have hlist : State.reset.ae.commitList = [] := rfl
  simp [CommitListLaw, hlist, Context.isCommitting]

theorem oneOpenPerKey_reset : OneOpenPerKey State.reset := by
  intro i j w slot hi
  simp [Context.isKey] at hi

theorem poolLaw_reset : PoolLaw State.reset := ⟨commitListLaw_reset, oneOpenPerKey_reset⟩

/-- No context is OPEN, no window decodes, and no program is staged (R37, R63, R158). -/
theorem countLaw_reset : CountLaw State.reset := by
  have hstage : State.reset.pa.stage = [] := rfl
  exact ⟨by simp, oneOpenPerKey_reset, fun w _ => State.holdsContexts_reset w, by simp, by simp [hstage]⟩

/-- Nothing drains, and no program is staged (R37, R158). -/
theorem drainLaw_reset : DrainLaw State.reset :=
  State.Undrained.drainLaw ⟨by simp [Window.reset, WState.isDraining], rfl⟩ rfl

theorem regionLaw_reset : RegionLaw State.reset := ⟨by simp, by simp⟩

/-- Every counter is 0, and no context holds a sample (R37, R63). -/
theorem conservationLaw_reset : ConservationLaw State.reset := by
  refine ⟨fun w => ?_, fun w _ => State.holdsContexts_reset w⟩
  rw [Balanced, State.heldCount_of_empty (State.holdsContexts_reset w), State.win_reset]
  rfl

theorem linkLaw_reset : LinkLaw State.reset := ⟨.nil, by simp [State.reset]⟩

/-- The list is empty, and no request is in the part (R17, R136). -/
theorem ownerLaw_reset : OwnerLaw State.reset := by
  have hcarried : State.reset.carried = [] := rfl
  have hrol : State.reset.ig.rol = [] := rfl
  simp [OwnerLaw, hcarried, hrol]

theorem commitHeadLaw_reset : CommitHeadLaw State.reset :=
  ⟨.of_nil rfl, poolLaw_reset, fun w _ => State.holdsContexts_reset w⟩

theorem monitorLaw_reset : MonitorLaw State.reset := by
  intro m
  rw [State.mon_reset]
  exact Monitor.lawful_reset

/-- Settles O47, law by law. -/
theorem lawsHoldAtReset : Obligations.LawsHoldAtReset := by
  unfold Obligations.LawsHoldAtReset
  exact ⟨alertLaw_reset, lossLaw_reset, capacityLaw_reset, issueLaw_reset, queueOrderLaw_reset, responseTimerLaw_reset,
    holdTimerLaw_reset, poolLaw_reset, countLaw_reset, drainLaw_reset, regionLaw_reset, conservationLaw_reset,
    linkLaw_reset, ownerLaw_reset, commitHeadLaw_reset, monitorLaw_reset⟩

end Sys2Proof.Machine

/-! PROOF. The frame on the wire (R175, R191): the judgement of a frame, which the bytes that the port does not keep do
not change, and the frames that R191 builds. -/

namespace Sys2Proof.Machine

/-! ### The judgement of a frame (R175) -/

/-- The bytes after the first 43 do not change the verdict: a frame that they belong to is too long already (R175,
10.2). -/
theorem judge_take (frame : List Byte) : judge (frame.take (Config.maxArgs + 3)) = judge frame := by
  match frame with
  | [] | [_] => rfl
  | code :: len :: rest =>
    have htake : (code :: len :: rest).take (Config.maxArgs + 3) = code :: len :: rest.take 41 := rfl
    rw [htake, judge, judge, show Config.maxArgs = 40 from rfl]
    by_cases hlong : 40 < len.toNat
    · rw [if_pos (.inl hlong), if_pos (.inl hlong)]
    · have hshort : (rest.take 41).length < len.toNat + 1 ↔ rest.length < len.toNat + 1 := by
        rw [List.length_take]
        omega
      have hcrc : (rest.take 41).getD len.toNat 0 = rest.getD len.toNat 0 := by
        rw [List.getD_eq_getElem?_getD, List.getElem?_take_of_lt (by omega), List.getD_eq_getElem?_getD]
      have hargs : (rest.take 41).take len.toNat = rest.take len.toNat := by
        rw [List.take_take, Nat.min_eq_left (by omega)]
      simp only [hshort, hcrc, hargs]

/-- The verdict on the bytes that the port keeps is the verdict on all complete bytes (R172, R175). -/
theorem judge_keptBytes (code : Byte) (mdi : List Bool) :
    judge (keptBytes code mdi) = judge (code :: completeBytes mdi) :=
  judge_take _

/-- R175 line by line, over a frame's bytes by their places. -/
theorem judge_eq (f : List Byte) : judge f =
    if f.length < 2 ∨ 40 < (f.getD 1 0).toNat ∨ f.length < (f.getD 1 0).toNat + 3 then .badFrame
    else if f.getD ((f.getD 1 0).toNat + 2) 0 ≠ crc8 (f.take ((f.getD 1 0).toNat + 2)) then .badCrc
    else match argLength (f.headD 0) with
      | none => .badCmd
      | some n => if (f.getD 1 0).toNat ≠ n then .badArg else .run ((f.drop 2).take (f.getD 1 0).toNat) := by
  match f with
  | [] | [_] => rfl
  | code :: len :: rest =>
    have hlength : (code :: len :: rest).length < len.toNat + 3 ↔ rest.length < len.toNat + 1 := by
      simp only [List.length_cons]
      omega
    have htwo : ¬(code :: len :: rest).length < 2 := by simp
    rw [judge]
    simp only [List.getD_cons_succ, List.getD_cons_zero, hlength, htwo, false_or]
    rfl

/-- The code table of R191, with the length of each command's argument. -/
def argTable : List (Byte × Nat) :=
  [(0x01, 0), (0x02, 0), (0x10, 21), (0x11, 1), (0x12, 1), (0x13, 1), (0x14, 0), (0x20, 9), (0x21, 13), (0x22, 1),
   (0x30, 0), (0x31, 0), (0x40, 7), (0x41, 0)]

theorem argLength_eq_lookup (code : Byte) : argLength code = argTable.lookup code := by
  have hcons (k : Byte) (n : Nat) (l : List (Byte × Nat)) :
      ((k, n) :: l).lookup code = if code = k then some n else l.lookup code := by
    rw [List.lookup_cons]
    by_cases h : code = k
    · rw [if_pos h, beq_iff_eq.2 h]
    · rw [if_neg h, beq_eq_false_iff_ne.2 h]
  simp only [argLength, argTable, hcons, List.lookup_nil]

/-- Settles O8: the verdict on all complete bytes, line by line, and the code table. -/
theorem frameJudgement : Obligations.FrameJudgement := by
  unfold Obligations.FrameJudgement
  refine ⟨fun code mdi => ?_, argLength_eq_lookup⟩
  rw [judge_keptBytes, judge_eq]
  rfl

/-! ### The frames that R191 builds -/

/-- No argument is longer than the longest in the table, STAGE's. -/
theorem argLength_le {code : Byte} {n : Nat} (h : argLength code = some n) : n ≤ 21 := by
  rw [argLength_eq_lookup, List.lookup_eq_some_iff] at h
  obtain ⟨before, after, htable, -⟩ := h
  have hmem : (code, n) ∈ argTable := by simp [htable]
  have hall : ∀ p ∈ argTable, p.2 ≤ 21 := by decide
  exact hall _ hmem

/-- A frame of R191 passes every line of R175, whatever bytes follow it. -/
theorem judge_frameBytes_append {code : Byte} {args : List Byte} (h : argLength code = some args.length)
    (extra : List Byte) : judge (frameBytes code args ++ extra) = .run args := by
  have hle : args.length ≤ 21 := argLength_le h
  have hlen : (BitVec.ofNat 8 args.length).toNat = args.length := by
    rw [BitVec.toNat_ofNat]
    omega
  have hframe : frameBytes code args ++ extra = code :: BitVec.ofNat 8 args.length ::
      (args ++ crc8 (code :: BitVec.ofNat 8 args.length :: args) :: extra) := by
    simp [frameBytes]
  have hcrc : (args ++ crc8 (code :: BitVec.ofNat 8 args.length :: args) :: extra).getD args.length 0 =
      crc8 (code :: BitVec.ofNat 8 args.length :: args) := by
    simp
  have hbytes : ¬(Config.maxArgs < args.length ∨
      (args ++ crc8 (code :: BitVec.ofNat 8 args.length :: args) :: extra).length < args.length + 1) := by
    rw [show Config.maxArgs = 40 from rfl, List.length_append, List.length_cons]
    omega
  rw [hframe, judge, hlen, if_neg hbytes, hcrc, List.take_left, if_neg (not_not.2 rfl), h]
  exact if_neg (not_not.2 rfl)

/-- The complete bytes of a select period that carries a frame of R191: the frame's, and those of the bits after it. -/
theorem cons_completeBytes_frameTail (code : Byte) (args : List Byte) (extra : List Bool) :
    code :: completeBytes (frameTail code args ++ extra) = frameBytes code args ++ completeBytes extra := by
  rw [frameTail, completeBytes_wire_append]
  rfl

/-- Settles O9: the frame's bytes arrive whole, and pass R175. -/
theorem framesRoundTrip : Obligations.FramesRoundTrip := by
  unfold Obligations.FramesRoundTrip
  intro code args extra h
  rw [Executes, judge_keptBytes, cons_completeBytes_frameTail]
  exact judge_frameBytes_append h _

end Sys2Proof.Machine

/-! PROOF. The commands that are refused or that only reply (R166, R175, R179, R181, R184, R187), and SET_TIMERS (R189):
each as its next state. -/

namespace Sys2Proof.Machine

/-! ### Refused frames (R175) -/

/-- A command row runs the transaction of its code (R191). -/
theorem exec_commandRow (mdi : List Bool) (s : State) : ∀ p ∈ commandRows,
    exec (p.2 mdi) s = .next (s.selected (·.transact p.1 mdi (commandEffect p.1))) := by
  simp only [commandRows, List.forall_mem_cons]
  exact ⟨rfl, rfl, rfl, rfl, rfl, rfl, rfl, rfl, rfl, rfl, rfl, rfl, rfl, rfl, by simp⟩

/-- UNKNOWN_COMMAND runs the transaction of its first byte, which is not 0x00 (R173). -/
theorem exec_unknownCommand {code : Byte} {s : State} (hl : s.Listening) (hcode : code ≠ 0) (mdi : List Bool) :
    exec (.unknownCommand code mdi) s = .next (s.transact code mdi (commandEffect code)) := by
  have htransaction : s.transaction code mdi = s.transact code mdi (commandEffect code) := if_neg hcode
  rw [← htransaction]
  exact congrArg Host.Outcome.next (State.selected_listening hl _)

/-- The frames of UNKNOWN_COMMAND are those that one of the first three lines of R175 refuses. -/
theorem judge_of_not_frameTaken {code : Byte} {mdi : List Bool} (h : frameTaken code mdi = false) :
    judge (keptBytes code mdi) = .badFrame ∨ judge (keptBytes code mdi) = .badCrc ∨
      judge (keptBytes code mdi) = .badCmd := by
  unfold frameTaken at h
  cases hj : judge (keptBytes code mdi)
  case badArg | run => simp [hj] at h
  all_goals simp

/-- Settles O10, line by line of R175. -/
theorem refusedFrameOnlyStoresItsReply : Obligations.RefusedFrameOnlyStoresItsReply := by
  unfold Obligations.RefusedFrameOnlyStoresItsReply
  refine ⟨fun p hp mdi s hl => ?_, fun code mdi s hl hwf => ?_⟩
  · rw [exec_commandRow mdi s p hp, State.selected_listening hl]
    obtain ⟨hframe, hcrc, -, harg⟩ := s.transact_refused p.1 mdi (commandEffect p.1)
    exact ⟨fun h => congrArg _ (hframe h), fun h => congrArg _ (hcrc h), fun h => congrArg _ (harg h)⟩
  · obtain ⟨hcode, htaken⟩ : code ≠ 0 ∧ frameTaken code mdi = false := by simpa [Instr.wf] using hwf
    rw [exec_unknownCommand hl hcode]
    obtain ⟨hframe, hcrc, hcmd, -⟩ := s.transact_refused code mdi (commandEffect code)
    rcases judge_of_not_frameTaken htaken with h | h | h
    · exact .inl ⟨h, congrArg _ (hframe h)⟩
    · exact .inr (.inl ⟨h, congrArg _ (hcrc h)⟩)
    · exact .inr (.inr ⟨h, congrArg _ (hcmd h)⟩)

/-! ### Commands that only reply -/

/-- A frame that executes at a port that listens, of a command that only replies. -/
theorem State.selected_reply {s : State} {code : Byte} {mdi : List Bool} {a : List Byte} (hl : s.Listening)
    (hx : Executes code mdi a) {effect : List Byte → State → State × Reply} {r : Reply}
    (hr : effect a (s.receive code mdi).floatMdo = ((s.receive code mdi).floatMdo, r)) :
    s.selected (·.transact code mdi effect) = s.replied mdi r := by
  rw [State.selected_transact hl hx, hr]
  rfl

/-- The fourteen bytes of IDENT (R179, R194). -/
theorem identBytes_eq : identBytes =
    [0xD1, 0x24, 0x01, 0x10, 0x40, 0x00, 0x04, 0x08, 0x04, 0x04, 0x10, 0x10, 0x20, 0x28] := by decide

/-- Settles O11, by the fourteen bytes. -/
theorem identReply : Obligations.IdentReply := by
  unfold Obligations.IdentReply
  intro mdi s hl hx
  rw [← identBytes_eq]
  exact congrArg Host.Outcome.next (State.selected_reply hl hx rfl)

theorem queryWindowEffect_refused {b : Byte} (h : 15 < b.toNat) (s : State) :
    queryWindowEffect [b] s = (s, ⟨.badArg, []⟩) := by
  have hb : windowArg (byteAt [b] 0) = none := (windowArg_none_iff b).2 h
  rw [queryWindowEffect, hb]
  rfl

theorem queryWindowEffect_window (w : Fin 16) (s : State) :
    queryWindowEffect [BitVec.ofNat 8 w.val] s = (s, ⟨.ok, s.windowBytes w⟩) := by
  have hw : windowArg (byteAt [BitVec.ofNat 8 w.val] 0) = some w := by
    refine (windowArg_iff _ w).2 ?_
    show (BitVec.ofNat 8 w.val).toNat = w.val
    rw [BitVec.toNat_ofNat]
    omega
  rw [queryWindowEffect, hw]
  rfl

/-- Settles O12, query by query: the bytes of each reply. -/
theorem queriesOnlyReply : Obligations.QueriesOnlyReply := by
  unfold Obligations.QueriesOnlyReply
  refine ⟨fun mdi s hl hx => ?_, fun mdi b s hl hx hb => ?_, fun mdi w s hl hx => ?_, fun mdi s hl hx => ?_,
    fun mdi s hl hx => ?_⟩
  · exact congrArg Host.Outcome.next (State.selected_reply hl hx rfl)
  · exact congrArg Host.Outcome.next (State.selected_reply hl hx (queryWindowEffect_refused hb _))
  · refine congrArg Host.Outcome.next ((State.selected_reply hl hx (queryWindowEffect_window w _)).trans ?_)
    refine congrArg (s.replied mdi) (congrArg (Reply.mk .ok) ?_)
    show s.windowBytes w = _
    rw [State.windowBytes, Counters.bytes]
    rcases (s.win w).state with _ | _ | (_ | _) <;> simp only [List.append_assoc] <;> rfl
  · refine congrArg Host.Outcome.next ((State.selected_reply hl hx rfl).trans ?_)
    refine congrArg (s.replied mdi) (congrArg (Reply.mk .ok) ?_)
    show s.poolBytes = _
    rw [State.poolBytes, State.holdRemaining]
    rcases s.ig.intake with _ | _ | ⟨_, _, (_ | _), _, _, _⟩ <;> cases s.ae.holdTimer <;> rfl
  · exact congrArg Host.Outcome.next (State.selected_reply hl hx rfl)

/-! ### SET_TIMERS (R189) -/

/-- The 7 argument bytes of SET_TIMERS (R193). -/
def limitBytes (h d r : BitVec 16) (m : Byte) : List Byte :=
  leBytes h.toNat 2 ++ leBytes d.toNat 2 ++ leBytes r.toNat 2 ++ [m]

/-- The values that an argument spells, when the limits are in range; none when one is not (R189). -/
theorem timerArg_limitBytes (h d r : BitVec 16) (m : Byte) : timerArg (limitBytes h d r m) =
    if 1 ≤ d.toNat ∧ 1 ≤ r.toNat ∧ r.toNat ≤ 4095 then some ⟨h, d, r, m.setWidth 5⟩ else none := by
  have hhold : BitVec.ofNat 16 (fieldAt (limitBytes h d r m) 0 2) = h := ofNat_leNat_leBytes 2 h
  have hdrain : BitVec.ofNat 16 (fieldAt (limitBytes h d r m) 2 2) = d := ofNat_leNat_leBytes 2 d
  have hresponse : BitVec.ofNat 16 (fieldAt (limitBytes h d r m) 4 2) = r := ofNat_leNat_leBytes 2 r
  have hmask : byteAt (limitBytes h d r m) 6 = m := rfl
  rw [timerArg, hhold, hdrain, hresponse, hmask]

/-- Bits 5 to 7 of the mask byte are not stored (R189), and the reply sends them as 0 (log 33). -/
theorem setWidth_maskByte (m : Byte) : (m.setWidth 5).setWidth 8 = m &&& 0x1F := by
  revert m
  decide

/-- Settles O16, by the limits that the argument spells. -/
theorem setTimersReplacesTheLimits : Obligations.SetTimersReplacesTheLimits := by
  unfold Obligations.SetTimersReplacesTheLimits
  intro mdi s h d r m hl hx
  have hexec : exec (.setTimers mdi) s = .next (s.selected (·.transact 0x40 mdi setTimersEffect)) := rfl
  rw [← limitBytes] at hx
  rw [hexec, State.selected_transact hl hx, setTimersEffect, timerArg_limitBytes]
  refine ⟨fun hrefused => ?_, fun hd hr hmax => ?_⟩
  · rw [if_neg (by bv_omega)]
    rfl
  · rw [if_pos ⟨by bv_omega, by bv_omega, hmax⟩]
    refine ⟨alertLevel s.evq.events s.evq.lost (m.setWidth 5), ?_, alertLevel_iff ..⟩
    rw [← setWidth_maskByte]
    rfl

end Sys2Proof.Machine

/-! PROOF. ENGINE_RESET (R185) with no request held: what its steps leave in each block. -/

namespace Sys2Proof.Machine

/-! ### The blocks after an engine reset (R185) -/

section
variable (s : State)

theorem State.engineResetBlocks_ctx (i : Fin 64) : s.engineResetBlocks.ctx i = .free :=
  Vector.getElem_replicate _

theorem State.engineResetBlocks_flushOf (w : Fin 16) : s.engineResetBlocks.flushOf w = ⟨0, 0⟩ :=
  Vector.getElem_replicate _

/-- Every index is reset (R100, R115). -/
theorem State.engineResetBlocks_slotAt {i : Nat} (h : i < 1024) : s.engineResetBlocks.slotAt i = ⟨0, false⟩ := by
  have hct : s.engineResetBlocks.ct = mapIdxV (fun _ _ => SlotStatus.fresh) s.ct := rfl
  rw [State.slotAt, hct, Vector.getElem?_eq_getElem h, getElem_mapIdxV]
  rfl

theorem State.engineResetBlocks_win (w : Fin 16) : s.engineResetBlocks.win w = (s.win w).engineReset :=
  getElem_mapV ..

theorem State.engineResetBlocks_mon (m : Fin 4) : s.engineResetBlocks.mon m = (s.mon m).released :=
  getElem_mapV ..

end

/-- ENGINE_RESET with no request held: the blocks' steps, the record, and the two values in the reply. -/
theorem engineResetEffect_of_noHeld {s : State} (h : s.NoHeld) (a : List Byte) : engineResetEffect a s =
    (s.engineResetBlocks.record .engineReset none none (BitVec.ofNat 32 (s.openCount + s.committingCount))
      s.pa.stage.length,
     ⟨.ok, [BitVec.ofNat 8 (s.openCount + s.committingCount), BitVec.ofNat 8 s.pa.stage.length]⟩) :=
  congrArg (Prod.mk · _) (State.release_of_noHeld h)

/-- Settles O28, block by block. -/
theorem engineResetClearsTheEngine : Obligations.EngineResetClearsTheEngine := by
  unfold Obligations.EngineResetClearsTheEngine
  intro mdi s hl hx hn
  have hexec : exec (.engineReset mdi) s = .next (s.selected (·.transact 0x41 mdi engineResetEffect)) := rfl
  refine ⟨_, hexec, ?_⟩
  rw [State.selected_transact hl hx, engineResetEffect_of_noHeld (s := (s.receive 0x41 mdi).floatMdo) hn]
  set u := (s.receive 0x41 mdi).floatMdo
  exact ⟨rfl, u.engineResetBlocks_ctx, rfl, rfl, u.engineResetBlocks_flushOf, fun i => u.engineResetBlocks_slotAt,
    rfl, u.engineResetBlocks_win, u.engineResetBlocks_mon, rfl, rfl, rfl, rfl⟩

end Sys2Proof.Machine

/-! PROOF. The timebase (R187) and the response read (R177), and what every command leaves as it was: the queue of
commands that wait (log 29), and MDO floating (R202). -/

namespace Sys2Proof.Machine

/-! ### The timebase (R187) -/

theorem State.tick_running {s : State} (h : s.hold = .running) :
    s.tick = { s with mp := { s.mp with timebase := s.mp.timebase + 1 } } := by
  rw [State.tick, h]

theorem State.tick_held {s : State} {n : Nat} (h : s.hold = .held n) : s.tick = { s with hold := .held (n - 25) } := by
  rw [State.tick, h]
  rfl

/-- Settles O5, by whether a reset holds the part. -/
theorem timebaseTick : Obligations.TimebaseTick := by
  unfold Obligations.TimebaseTick
  exact ⟨fun s h => congrArg Host.Outcome.next (State.tick_running h),
    fun s n h => congrArg Host.Outcome.next (State.tick_held h)⟩

/-! ### What every command leaves as it was -/

/-- The queue of waiting commands stays (log 29), and MDO floats where it floated (R202). -/
structure KeepsQueueAndMdo (s t : State) : Prop where
  pending : t.pending = s.pending
  mdo : s.pins.mdo = none → t.pins.mdo = none

namespace KeepsQueueAndMdo

variable {s t u : State}

theorem refl (s : State) : KeepsQueueAndMdo s s := ⟨rfl, id⟩

theorem trans (h : KeepsQueueAndMdo s t) (g : KeepsQueueAndMdo t u) : KeepsQueueAndMdo s u :=
  ⟨g.pending.trans h.pending, fun hm => g.mdo (h.mdo hm)⟩

/-- An operation that leaves the level of MDO. -/
theorem of_frame (hq : t.pending = s.pending) (hm : t.pins.mdo = s.pins.mdo) : KeepsQueueAndMdo s t :=
  ⟨hq, fun h => hm.trans h⟩

/-- The end of a select period, or a reset: MDO floats (R202). -/
theorem of_floats (hq : t.pending = s.pending) (hm : t.pins.mdo = none) : KeepsQueueAndMdo s t := ⟨hq, fun _ => hm⟩

end KeepsQueueAndMdo

/-! ### The rows of the link, the arbiter and the timers -/

section
variable (s : State)

theorem State.present_keepsQueueAndMdo (r : Request) : KeepsQueueAndMdo s (s.present r) := by
  unfold State.present State.accept
  split <;> exact .of_frame (by simp) (by simp)

theorem State.deliver_keepsQueueAndMdo : KeepsQueueAndMdo s s.deliver := by
  unfold State.deliver
  repeat' split
  all_goals exact .of_frame rfl rfl

theorem State.holdExpiry_keepsQueueAndMdo : KeepsQueueAndMdo s s.holdExpiry := by
  unfold State.holdExpiry
  repeat' split
  all_goals exact .of_frame (by simp) (by simp)

@[simp] theorem State.idleEnd_frame (i : Fin 64) (a : Accum) :
    (s.idleEnd i a).pending = s.pending ∧ (s.idleEnd i a).pins = s.pins := by
  unfold State.idleEnd
  split <;> simp

theorem State.idleExpiry_keepsQueueAndMdo (w : Fin 16) (slot : Nat) : KeepsQueueAndMdo s (s.idleExpiry w slot) := by
  unfold State.idleExpiry
  repeat' split
  all_goals exact .of_frame (by simp) (by simp)

@[simp] theorem State.forceContexts_frame (w : Fin 16) :
    (s.forceContexts w).pending = s.pending ∧ (s.forceContexts w).pins = s.pins := by
  unfold State.forceContexts
  dsimp only
  repeat' split
  all_goals simp

theorem State.drainExpiry_keepsQueueAndMdo : KeepsQueueAndMdo s s.drainExpiry := by
  unfold State.drainExpiry
  repeat' split
  all_goals exact .of_frame (by simp) (by simp)

@[simp] theorem State.afterUnreachable_frame :
    s.afterUnreachable.pending = s.pending ∧ s.afterUnreachable.pins = s.pins := by
  simp [State.afterUnreachable]

theorem State.commitEntry_keepsQueueAndMdo : KeepsQueueAndMdo s s.commitEntry := by
  unfold State.commitEntry
  dsimp only
  repeat' split
  all_goals exact .of_frame (by simp) (by simp)

theorem State.ingressEntry_keepsQueueAndMdo : KeepsQueueAndMdo s s.ingressEntry := by
  unfold State.ingressEntry
  repeat' split
  all_goals exact .of_frame (by simp) (by simp)

/-- A request that issues is put on EGQ's pins alone (R201). -/
@[simp] theorem State.send_mdo (e : EgressEntry) :
    (s.send e).pending = s.pending ∧ (s.send e).pins.mdo = s.pins.mdo := by
  unfold State.send
  dsimp only
  split <;> simp

theorem State.issue_keepsQueueAndMdo (ready : Bool) : KeepsQueueAndMdo s (s.issue ready) := by
  unfold State.issue
  repeat' split
  all_goals exact .of_frame (by simp) (by simp)

theorem State.memoryResponse_keepsQueueAndMdo (st : LinkStatus) (d : Lanes) :
    KeepsQueueAndMdo s (s.memoryResponse st d) := by
  unfold State.memoryResponse
  dsimp only
  repeat' split
  all_goals exact .of_frame (by simp) (by simp)

theorem State.responseExpiry_keepsQueueAndMdo : KeepsQueueAndMdo s s.responseExpiry := by
  unfold State.responseExpiry
  repeat' split
  all_goals exact .of_frame (by simp) (by simp)

end

/-! ### The rows of the management port -/

/-- The effect of a command keeps the queue, and MDO floating: only the transaction around it drives MDO. -/
def EffectKeepsQueueAndMdo (effect : List Byte → State → State × Reply) : Prop :=
  ∀ args s, KeepsQueueAndMdo s (effect args s).1

namespace EffectKeepsQueueAndMdo

theorem ite {c : Prop} [Decidable c] {f g : List Byte → State → State × Reply} (hf : EffectKeepsQueueAndMdo f)
    (hg : EffectKeepsQueueAndMdo g) : EffectKeepsQueueAndMdo (if c then f else g) :=
  iteInduction (fun _ => hf) fun _ => hg

theorem stage : EffectKeepsQueueAndMdo stageEffect := by
  intro args s
  unfold stageEffect State.stageProgram
  repeat' split
  all_goals exact .of_frame (by simp) (by simp)

theorem withdraw : EffectKeepsQueueAndMdo withdrawEffect := by
  intro args s
  unfold withdrawEffect State.withdrawAll
  dsimp only
  repeat' split
  all_goals exact .of_frame (by simp) (by simp)

theorem flush : EffectKeepsQueueAndMdo flushEffect := by
  intro args s
  unfold flushEffect State.flushWindow
  dsimp only
  repeat' split
  all_goals exact .of_frame (by simp) (by simp)

theorem queryWindow : EffectKeepsQueueAndMdo queryWindowEffect := by
  intro args s
  unfold queryWindowEffect
  split <;> exact .refl s

theorem setCorrection : EffectKeepsQueueAndMdo setCorrectionEffect := by
  intro args s
  unfold setCorrectionEffect
  split <;> exact .of_frame rfl rfl

theorem setMonitor : EffectKeepsQueueAndMdo setMonitorEffect := by
  intro args s
  unfold setMonitorEffect
  split <;> exact .of_frame rfl rfl

theorem releaseMonitor : EffectKeepsQueueAndMdo releaseMonitorEffect := by
  intro args s
  unfold releaseMonitorEffect
  split <;> exact .of_frame rfl rfl

theorem popEvent : EffectKeepsQueueAndMdo popEventEffect := by
  intro args s
  unfold popEventEffect
  split <;> exact .of_frame rfl rfl

theorem setTimers : EffectKeepsQueueAndMdo setTimersEffect := by
  intro args s
  unfold setTimersEffect
  split <;> exact .of_frame rfl rfl

theorem engineReset : EffectKeepsQueueAndMdo engineResetEffect := fun _ s =>
  have hblocks : KeepsQueueAndMdo s s.engineResetBlocks := .of_frame rfl rfl
  hblocks.trans (.of_frame (by simp [engineResetEffect]) (by simp [engineResetEffect]))

/-- Every command of the port (10.4). -/
theorem command (code : Byte) : EffectKeepsQueueAndMdo (commandEffect code) := by
  have reply (f : State → Reply) : EffectKeepsQueueAndMdo (fun _ s => (s, f s)) := fun _ s => .refl s
  exact .ite (reply _) <| .ite (reply _) <| .ite stage <| .ite withdraw <| .ite flush <| .ite queryWindow <|
    .ite (reply _) <| .ite setCorrection <| .ite setMonitor <| .ite releaseMonitor <| .ite popEvent <|
    .ite (reply _) <| .ite setTimers <| .ite engineReset (reply _)

end EffectKeepsQueueAndMdo

section
variable (s : State)

/-- MDO floats before the command acts, and stays floating (R175, R202). -/
theorem State.transact_keepsQueueAndMdo (code : Byte) (mdi : List Bool) :
    KeepsQueueAndMdo s (s.transact code mdi (commandEffect code)) := by
  have hreceived : KeepsQueueAndMdo s (s.receive code mdi).floatMdo := .of_floats rfl rfl
  have hstore (t : State) (r : Reply) : KeepsQueueAndMdo t (t.store r) := .of_frame rfl rfl
  unfold State.transact
  dsimp only
  cases judge (keptBytes code mdi)
  case run args => exact (hreceived.trans (EffectKeepsQueueAndMdo.command code args _)).trans (hstore _ _)
  all_goals exact hreceived.trans (hstore _ _)

theorem State.transaction_keepsQueueAndMdo (code : Byte) (mdi : List Bool) :
    KeepsQueueAndMdo s (s.transaction code mdi) := by
  unfold State.transaction
  split
  · exact .of_floats rfl rfl
  · exact s.transact_keepsQueueAndMdo code mdi

theorem State.shortPeriod_keepsQueueAndMdo (mdi : List Bool) : KeepsQueueAndMdo s (s.shortPeriod mdi) := by
  unfold State.shortPeriod
  split
  · exact .of_floats rfl rfl
  · exact s.transaction_keepsQueueAndMdo _ _

theorem State.active_keepsQueueAndMdo {f : State → State} (hf : KeepsQueueAndMdo s (f s)) :
    KeepsQueueAndMdo s (s.active f) := by
  unfold State.active
  split
  · exact hf
  · exact .refl s

theorem State.selected_keepsQueueAndMdo {f : State → State} (hf : KeepsQueueAndMdo s (f s)) :
    KeepsQueueAndMdo s (s.selected f) := by
  unfold State.selected
  split
  · exact .of_frame rfl rfl
  · exact s.active_keepsQueueAndMdo hf

/-- A row of the port that runs the command of `code`. -/
theorem State.command_keepsQueueAndMdo (code : Byte) (mdi : List Bool) :
    KeepsQueueAndMdo s (s.selected (·.transact code mdi (commandEffect code))) :=
  s.selected_keepsQueueAndMdo (s.transact_keepsQueueAndMdo code mdi)

theorem State.beginPeriod_keepsQueueAndMdo : KeepsQueueAndMdo s s.beginPeriod := by
  unfold State.beginPeriod
  split <;> exact .of_frame rfl rfl

/-! ### Resets and the timebase -/

theorem State.tick_keepsQueueAndMdo : KeepsQueueAndMdo s s.tick := by
  unfold State.tick
  split <;> exact .of_frame rfl rfl

/-- A reset leaves the queue of commands (log 18), and MDO floats (R202). -/
theorem State.resetBlocks_keepsQueueAndMdo (hold : ResetHold) :
    KeepsQueueAndMdo s (s.resetBlocks hold) := .of_floats rfl rfl

theorem State.takeRst_keepsQueueAndMdo : KeepsQueueAndMdo s s.takeRst := by
  unfold State.takeRst
  split <;> exact s.resetBlocks_keepsQueueAndMdo _

theorem State.releaseReset_keepsQueueAndMdo : KeepsQueueAndMdo s s.releaseReset := by
  unfold State.releaseReset
  split
  · exact .refl s
  · exact s.resetBlocks_keepsQueueAndMdo _
  · exact .refl s

end

/-! ### Every command -/

/-- RST#, whatever a short pulse of it does (R199; log 11). -/
theorem execRstAssert_keepsQueueAndMdo (low : Nat) (s : State) :
    ∃ t, execRstAssert low s = .next t ∧ KeepsQueueAndMdo s t := by
  have hindex : KeepsQueueAndMdo s { s with freeIdx := s.freeIdx + 1 } := .of_frame rfl rfl
  unfold execRstAssert
  dsimp only
  split_ifs
  · exact ⟨_, rfl, s.takeRst_keepsQueueAndMdo⟩
  · exact ⟨_, rfl, hindex.trans (State.takeRst_keepsQueueAndMdo _)⟩
  · exact ⟨_, rfl, hindex⟩

theorem execResponseRead_keepsQueueAndMdo (p : ReadPeriod) (s : State) :
    ∃ t, execResponseRead p s = .next t ∧ KeepsQueueAndMdo s t := by
  cases p
  case read mdi => exact ⟨_, rfl, s.selected_keepsQueueAndMdo (.of_floats rfl rfl)⟩
  case short mdi => exact ⟨_, rfl, s.selected_keepsQueueAndMdo (s.shortPeriod_keepsQueueAndMdo mdi)⟩
  case begun => exact ⟨_, rfl, s.beginPeriod_keepsQueueAndMdo⟩

/-- Every command takes a next state, and keeps the queue, and MDO floating. -/
theorem exec_keepsQueueAndMdo (c : Instr) (s : State) : ∃ t, exec c s = .next t ∧ KeepsQueueAndMdo s t := by
  cases c
  case rstAssert low => exact execRstAssert_keepsQueueAndMdo low s
  case responseRead p => exact execResponseRead_keepsQueueAndMdo p s
  all_goals refine ⟨_, rfl, ?_⟩
  case ingressRequest => exact s.active_keepsQueueAndMdo (s.present_keepsQueueAndMdo _)
  case holdTimerExpiry => exact s.active_keepsQueueAndMdo s.holdExpiry_keepsQueueAndMdo
  case idleExpiry => exact s.active_keepsQueueAndMdo (s.idleExpiry_keepsQueueAndMdo _ _)
  case commitEntry => exact s.active_keepsQueueAndMdo s.commitEntry_keepsQueueAndMdo
  case ingressEntry => exact s.active_keepsQueueAndMdo s.ingressEntry_keepsQueueAndMdo
  case issue => exact s.active_keepsQueueAndMdo (s.issue_keepsQueueAndMdo _)
  case egressResponse => exact s.active_keepsQueueAndMdo (s.memoryResponse_keepsQueueAndMdo _ _)
  case responseTimeout => exact s.active_keepsQueueAndMdo s.responseExpiry_keepsQueueAndMdo
  case deliverResponse => exact s.active_keepsQueueAndMdo s.deliver_keepsQueueAndMdo
  case drainTimerExpiry => exact s.active_keepsQueueAndMdo s.drainExpiry_keepsQueueAndMdo
  case unknownCommand => exact s.selected_keepsQueueAndMdo (s.transaction_keepsQueueAndMdo _ _)
  case timebaseTick => exact s.tick_keepsQueueAndMdo
  case powerOnReset => exact s.resetBlocks_keepsQueueAndMdo _
  case resetRelease => exact s.releaseReset_keepsQueueAndMdo
  case ident mdi => exact s.command_keepsQueueAndMdo 0x01 mdi
  case readTime mdi => exact s.command_keepsQueueAndMdo 0x02 mdi
  case stage mdi => exact s.command_keepsQueueAndMdo 0x10 mdi
  case withdraw mdi => exact s.command_keepsQueueAndMdo 0x11 mdi
  case flush mdi => exact s.command_keepsQueueAndMdo 0x12 mdi
  case queryWindow mdi => exact s.command_keepsQueueAndMdo 0x13 mdi
  case queryPool mdi => exact s.command_keepsQueueAndMdo 0x14 mdi
  case setCorrection mdi => exact s.command_keepsQueueAndMdo 0x20 mdi
  case setMonitor mdi => exact s.command_keepsQueueAndMdo 0x21 mdi
  case releaseMonitor mdi => exact s.command_keepsQueueAndMdo 0x22 mdi
  case popEvent mdi => exact s.command_keepsQueueAndMdo 0x30 mdi
  case eventStatus mdi => exact s.command_keepsQueueAndMdo 0x31 mdi
  case setTimers mdi => exact s.command_keepsQueueAndMdo 0x40 mdi
  case engineReset mdi => exact s.command_keepsQueueAndMdo 0x41 mdi

/-- Settles O2: every row is a function of the state, and none touches the queue. -/
theorem everyCommandTakesANextState : Obligations.EveryCommandTakesANextState := by
  unfold Obligations.EveryCommandTakesANextState
  intro c s
  obtain ⟨t, ht, hkept⟩ := exec_keepsQueueAndMdo c s
  exact ⟨t, ht, hkept.pending⟩

/-! ### The response read (R177) -/

section
variable {s : State}

theorem State.readReply_of_stored {r : Reply} (h : s.mp.port = .responseReady r) : s.readReply = r := by
  rw [State.readReply, h]

theorem State.readReply_of_idle (h : s.mp.port = .idle) : s.readReply = ⟨.none, []⟩ := by
  rw [State.readReply, h]
  rfl

/-- The three bytes that are sent when no reply is stored (R177). -/
theorem Reply.bytes_none : Reply.bytes ⟨.none, []⟩ = [0x0A, 0x00, 0x82] := by decide +kernel

/-- A response read, with the bits that MDO carries in it, as one next state. -/
theorem exec_responseRead (hl : s.Listening) (mdi : List Bool) : exec (.responseRead (.read mdi)) s =
    .next { s with pins := { s.pins with mdo := none, mdoSent := s.readBits mdi.length } } :=
  congrArg Host.Outcome.next (State.selected_listening hl _)

/-- A select period of fewer than eight bits, as one next state (R173; log 7). -/
theorem exec_shortPeriod (hl : s.Listening) {mdi : List Bool} (h : mdi.length < 8) :
    exec (.responseRead (.short mdi)) s =
      .next { s with pins := { s.pins with mdo := none, mdoSent := List.replicate mdi.length false } } := by
  have hshort : s.shortPeriod mdi = (s.driveMdo (List.replicate mdi.length false)).floatMdo := by
    rw [State.shortPeriod, completeBytes_short mdi h]
  exact congrArg Host.Outcome.next ((State.selected_listening hl _).trans hshort)

end

/-- Settles O13: the reply that is read, the short period, and MDO after every command. -/
theorem responseReadSendsTheStoredReply : Obligations.ResponseReadSendsTheStoredReply := by
  unfold Obligations.ResponseReadSendsTheStoredReply
  refine ⟨fun mdi s r hl hport => ?_, fun mdi s hl hport => ?_, fun mdi s hl h => exec_shortPeriod hl h,
    fun c s t hm h => ?_⟩
  · rw [exec_responseRead hl, State.readBits, State.readReply_of_stored hport]
    rfl
  · rw [exec_responseRead hl, State.readBits, State.readReply_of_idle hport, Reply.bytes_none]
  · obtain ⟨u, hu, hkept⟩ := exec_keepsQueueAndMdo c s
    cases hu.symm.trans h
    exact hkept.mdo hm

end Sys2Proof.Machine

/-! PROOF. The resets (R197 to R199): a reset holds the part in its reset state, where no row but the timebase, a reset
or the level of MCS# does anything, and the release starts the part from that state. -/

namespace Sys2Proof.Machine

/-! ### The two kinds of row that a reset shuts out (R198) -/

/-- A whole select period of the port does something only when it is selected (R172, R173). -/
theorem exec_onPort {c : Instr} (h : c.onPort = true) :
    ∃ f : State → State, ∀ s, exec c s = .next (s.selected f) := by
  cases c
  case responseRead p =>
    cases p
    case read | short => exact ⟨_, fun _ => rfl⟩
    case begun => cases h
  case ingressRequest | holdTimerExpiry | idleExpiry | commitEntry | ingressEntry | issue | egressResponse |
      responseTimeout | deliverResponse | drainTimerExpiry | timebaseTick | powerOnReset | rstAssert | resetRelease =>
    cases h
  all_goals exact ⟨_, fun _ => rfl⟩

/-- A row of the memory link, the arbiter or the timers does something only while no reset holds the part (R198). -/
theorem exec_offPort {c : Instr} (hact : c.actsInReset = false) (h : c.onPort = false) :
    ∃ f : State → State, ∀ s, exec c s = .next (s.active f) := by
  cases c
  case timebaseTick | powerOnReset | rstAssert | resetRelease => cases hact
  case responseRead p =>
    cases p
    case read | short => cases h
    case begun => cases hact
  case ingressRequest | holdTimerExpiry | idleExpiry | commitEntry | ingressEntry | issue | egressResponse |
      responseTimeout | deliverResponse | drainTimerExpiry => exact ⟨_, fun _ => rfl⟩
  all_goals cases h

/-- While a reset holds the part, a select period of the port leaves MCS# high, and nothing else (R172, R198). -/
theorem exec_onPort_held {c : Instr} {s : State} {n : Nat} (h : c.onPort = true) (hs : s.hold = .held n) :
    exec c s = .next { s with mcsLow := false } := by
  obtain ⟨f, hf⟩ := exec_onPort h
  rw [hf, State.selected_held hs]

/-- A select period that is open at the release of a reset is not taken: the next row of the port is its end (R173). -/
theorem exec_onPort_waiting {c : Instr} {s : State} (h : c.onPort = true) (hs : s.mcsLow = true) :
    exec c s = .next { s with mcsLow := false } := by
  obtain ⟨f, hf⟩ := exec_onPort h
  rw [hf, State.selected_waiting hs]

/-- While a reset holds the part, a row of the link, the arbiter or the timers does nothing (R198). -/
theorem exec_offPort_held {c : Instr} {s : State} {n : Nat} (hact : c.actsInReset = false) (h : c.onPort = false)
    (hs : s.hold = .held n) : exec c s = .next s := by
  obtain ⟨f, hf⟩ := exec_offPort hact h
  rw [hf, State.active_held hs]

/-- Settles O3, by whether the row is a select period of the port. -/
theorem heldPartActsOnNothing : Obligations.HeldPartActsOnNothing := by
  unfold Obligations.HeldPartActsOnNothing
  intro c s n hs hact
  cases h : c.onPort with
  | true => exact exec_onPort_held h hs
  | false => exact exec_offPort_held hact h hs

/-! ### The resets (R198, R199) -/

theorem State.takeRst_running {s : State} (h : s.hold = .running) : s.takeRst = s.resetBlocks (.held 0) := by
  rw [State.takeRst, h]

theorem State.takeRst_held {s : State} {k : Nat} (h : s.hold = .held k) : s.takeRst = s.resetBlocks (.held k) := by
  rw [State.takeRst, h]

/-- RST# low for 10 REFCLK periods is taken (R199). -/
theorem exec_rstAssert_taken {n : Nat} (h : 10 ≤ n) (s : State) : exec (.rstAssert n) s = .next s.takeRst :=
  if_pos h

/-- A shorter pulse counts as one more free value, which says whether it is taken (R199; log 11). -/
theorem exec_rstAssert_short {n : Nat} (h : n < 10) (s : State) :
    exec (.rstAssert n) s =
      .next (if Config.shortRstTaken s.freeIdx then { s with freeIdx := s.freeIdx + 1 }.takeRst
        else { s with freeIdx := s.freeIdx + 1 }) :=
  (if_neg (Nat.not_le.2 h)).trans (apply_ite _ _ _ _).symm

/-- Settles O6, reset by reset; of a short pulse, by the free value. -/
theorem resetsHoldThePart : Obligations.ResetsHoldThePart := by
  unfold Obligations.ResetsHoldThePart
  refine ⟨fun s n => rfl, fun s n hn hs => ?_, fun s n k hn hs => ?_, fun s n hn hs => ?_⟩
  · rw [exec_rstAssert_taken hn, State.takeRst_running hs]
    rfl
  · rw [exec_rstAssert_taken hn, State.takeRst_held hs]
    rfl
  · rw [exec_rstAssert_short hn]
    cases Config.shortRstTaken s.freeIdx with
    | false => exact .inl rfl
    | true => exact .inr (congrArg Host.Outcome.next (State.takeRst_running hs))

/-! ### The release (R173, R197) -/

/-- With no periods left to run, the release starts every block from its reset state (R197). -/
theorem exec_resetRelease_held {s : State} (h : s.hold = .held 0) :
    exec .resetRelease s = .next (s.resetBlocks .running) := by
  have hrelease : s.releaseReset = s.resetBlocks .running := by rw [State.releaseReset, h]
  exact congrArg Host.Outcome.next hrelease

/-- A select period that begins in a reset leaves MCS# low (R173). -/
theorem exec_begun_held {s : State} {n : Nat} (h : s.hold = .held n) :
    exec (.responseRead .begun) s = .next { s with mcsLow := true } := by
  have hbegin : s.beginPeriod = s.setMcsLow true := by simp [State.beginPeriod, State.running, h]
  exact congrArg Host.Outcome.next hbegin

/-- Every command row is a select period of the port (R172). -/
theorem onPort_commandRow (mdi : List Bool) : ∀ p ∈ commandRows, (p.2 mdi).onPort = true := by
  simp [commandRows, Instr.onPort]

/-- Every record of the Slot Status Memory is cleared (R115). -/
theorem State.ct_reset {i : Nat} (h : i < 1024) : State.reset.ct[i]? = some ⟨0, false⟩ := by
  simp [State.reset, SlotStatus.fresh, h]

/-- A select period that ends in the reset is ignored, and after the release the port listens (R173, R198). -/
theorem listening_after_release {s : State} (h : s.hold = .held 0) (mdi : List Bool) :
    ∃ t u : State, exec (.responseRead (.short mdi)) s = .next t ∧ exec .resetRelease t = .next u ∧ u.Listening :=
  ⟨_, _, exec_onPort_held rfl h, exec_resetRelease_held h, rfl, rfl⟩

/-- Settles O7: the release, the reset state block by block, and the select periods around a release. -/
theorem releaseStartsFromTheResetState : Obligations.ReleaseStartsFromTheResetState := by
  unfold Obligations.ReleaseStartsFromTheResetState
  have hwin (w : Fin 16) : (State.reset.win w).state = .disabled := by rw [State.win_reset]; rfl
  exact ⟨fun s h => exec_resetRelease_held h, rfl, hwin, State.ctx_reset, rfl, rfl, rfl, rfl, rfl, rfl,
    fun i h => State.ct_reset h, rfl, rfl, rfl, rfl, rfl, rfl, fun s n h => exec_begun_held h,
    fun s mdi h => ⟨fun p hp => exec_onPort_waiting (onPort_commandRow mdi p hp) h,
      fun code => exec_onPort_waiting rfl h, exec_onPort_waiting rfl h, exec_onPort_waiting rfl h⟩,
    fun s mdi h => listening_after_release h mdi⟩

end Sys2Proof.Machine

/-! PROOF. The queue of commands: a step takes the command at its front, and idles when none waits (log 17). -/

namespace Sys2Proof.Machine

/-- A waiting command is taken off the queue before it runs, so that it runs on the state with the queue's rest. -/
theorem step_of_pending_cons {s : State} {c : Instr} {rest : List Instr} (h : s.pending = c :: rest) :
    step s = exec c { s with pending := rest } := by
  rw [step, h]

/-- With no command waiting the block idles (log 17). -/
theorem step_of_pending_nil {s : State} (h : s.pending = []) : step s = .next s := by
  rw [step, h]

/-- Settles O1, by the two shapes of the queue. -/
theorem stepRunsTheFrontCommand : Obligations.StepRunsTheFrontCommand := by
  unfold Obligations.StepRunsTheFrontCommand
  exact ⟨fun _ _ _ => step_of_pending_cons rfl, fun _ h => step_of_pending_nil h⟩

end Sys2Proof.Machine

/-! PROOF. What a row can do, said once: it is a meaning of the link, the arbiter or a timer, a command of the port, a
reset, or it leaves the Ingress Port, the pool and IGR_VALID as they were. -/

namespace Sys2Proof.Machine

/-- The Ingress Port, the Accumulation Engine and IGR_VALID are as they were. -/
structure LinkStill (s t : State) : Prop where
  ig : t.ig = s.ig
  ae : t.ae = s.ae
  igr : t.pins.igrValid = s.pins.igrValid

/-- What the command of a frame can do (10.4). -/
inductive CommandStep (s : State) : State → Prop where
  | still {t : State} (h : LinkStill s t) : CommandStep s t
  | stage (p : Program) : CommandStep s (s.stageProgram p)
  | withdraw (w : Fin 16) : CommandStep s (s.withdrawAll w)
  | flush (w : Fin 16) : CommandStep s (s.flushWindow w)
  | engineReset (n k : Nat) :
      CommandStep s (s.engineResetBlocks.record .engineReset none none (BitVec.ofNat 32 n) k).release

/-- What a row can do. -/
inductive RowStep (s : State) : State → Prop where
  | still {t : State} (h : LinkStill s t) : RowStep s t
  | present (r : Request) : RowStep s (s.present r)
  | deliver : RowStep s s.deliver
  | holdExpiry : RowStep s s.holdExpiry
  | idleExpiry (w : Fin 16) (slot : Nat) : RowStep s (s.idleExpiry w slot)
  | drainExpiry : RowStep s s.drainExpiry
  | commitEntry : RowStep s s.commitEntry
  | ingressEntry : RowStep s s.ingressEntry
  | issue (ready : Bool) : RowStep s (s.issue ready)
  | memoryResponse (st : LinkStatus) (d : Lanes) : RowStep s (s.memoryResponse st d)
  | responseExpiry : RowStep s s.responseExpiry
  | command {t u v : State} (received : LinkStill s t) (ran : CommandStep t u) (stored : LinkStill u v) : RowStep s v
  | reset {t : State} (hig : t.ig = State.reset.ig) (hae : t.ae = State.reset.ae) (hpins : t.pins = State.reset.pins) :
      RowStep s t

/-! ### The commands of the port -/

/-- The effect of a command is one of these steps. -/
def StepsAsCommand (effect : List Byte → State → State × Reply) : Prop :=
  ∀ args s, CommandStep s (effect args s).1

namespace StepsAsCommand

theorem ite {c : Prop} [Decidable c] {f g : List Byte → State → State × Reply} (hf : StepsAsCommand f)
    (hg : StepsAsCommand g) : StepsAsCommand (if c then f else g) :=
  iteInduction (fun _ => hf) fun _ => hg

theorem stage : StepsAsCommand stageEffect := by
  intro args s
  unfold stageEffect
  split
  · exact .still ⟨rfl, rfl, rfl⟩
  · split
    · exact .stage _
    · exact .still ⟨rfl, rfl, rfl⟩

theorem withdraw : StepsAsCommand withdrawEffect := by
  intro args s
  unfold withdrawEffect
  split
  · exact .still ⟨rfl, rfl, rfl⟩
  · exact .withdraw _

theorem flush : StepsAsCommand flushEffect := by
  intro args s
  unfold flushEffect
  split
  · exact .still ⟨rfl, rfl, rfl⟩
  · split_ifs
    · exact .still ⟨rfl, rfl, rfl⟩
    · exact .still ⟨rfl, rfl, rfl⟩
    · exact .flush _

/-- The commands that write the registers of the port, the monitors or the Event Queue, or only reply. -/
theorem registers : StepsAsCommand setCorrectionEffect ∧ StepsAsCommand setMonitorEffect ∧
    StepsAsCommand releaseMonitorEffect ∧ StepsAsCommand popEventEffect ∧ StepsAsCommand setTimersEffect ∧
    StepsAsCommand queryWindowEffect := by
  refine ⟨fun args s => ?_, fun args s => ?_, fun args s => ?_, fun args s => ?_, fun args s => ?_, fun args s => ?_⟩
  · unfold setCorrectionEffect; split <;> exact .still ⟨rfl, rfl, rfl⟩
  · unfold setMonitorEffect; split <;> exact .still ⟨rfl, rfl, rfl⟩
  · unfold releaseMonitorEffect; split <;> exact .still ⟨rfl, rfl, rfl⟩
  · unfold popEventEffect; split <;> exact .still ⟨rfl, rfl, rfl⟩
  · unfold setTimersEffect; split <;> exact .still ⟨rfl, rfl, rfl⟩
  · unfold queryWindowEffect; split <;> exact .still ⟨rfl, rfl, rfl⟩

/-- Every command of the port (10.4). -/
theorem command (code : Byte) : StepsAsCommand (commandEffect code) := by
  obtain ⟨hcorrection, hmonitor, hrelease, hpop, htimers, hwindow⟩ := registers
  have hreply (f : State → Reply) : StepsAsCommand (fun _ s => (s, f s)) := fun _ s => .still ⟨rfl, rfl, rfl⟩
  have hreset : StepsAsCommand engineResetEffect := fun _ s => .engineReset _ _
  exact .ite (hreply _) <| .ite (hreply _) <| .ite stage <| .ite withdraw <| .ite flush <| .ite hwindow <|
    .ite (hreply _) <| .ite hcorrection <| .ite hmonitor <| .ite hrelease <| .ite hpop <| .ite (hreply _) <|
    .ite htimers <| .ite hreset (hreply _)

end StepsAsCommand

/-! ### Every row -/

namespace RowStep

theorem transact (s : State) (code : Byte) (mdi : List Bool) :
    RowStep s (s.transact code mdi (commandEffect code)) := by
  unfold State.transact
  dsimp only
  cases judge (keptBytes code mdi)
  case run args =>
    exact .command (t := (s.receive code mdi).floatMdo) ⟨rfl, rfl, rfl⟩ (StepsAsCommand.command code args _)
      ⟨rfl, rfl, rfl⟩
  all_goals exact .still ⟨rfl, rfl, rfl⟩

theorem transaction (s : State) (code : Byte) (mdi : List Bool) : RowStep s (s.transaction code mdi) := by
  unfold State.transaction
  split
  · exact .still ⟨rfl, rfl, rfl⟩
  · exact transact s code mdi

theorem shortPeriod (s : State) (mdi : List Bool) : RowStep s (s.shortPeriod mdi) := by
  unfold State.shortPeriod
  split
  · exact .still ⟨rfl, rfl, rfl⟩
  · exact transaction s _ _

theorem active {s : State} {f : State → State} (h : RowStep s (f s)) : RowStep s (s.active f) := by
  unfold State.active
  split
  · exact h
  · exact .still ⟨rfl, rfl, rfl⟩

theorem selected {s : State} {f : State → State} (h : RowStep s (f s)) : RowStep s (s.selected f) := by
  unfold State.selected
  split
  · exact .still ⟨rfl, rfl, rfl⟩
  · exact active h

/-- A row of the port that runs the command of `code`. -/
theorem ofCommand (s : State) (code : Byte) (mdi : List Bool) :
    RowStep s (s.selected (·.transact code mdi (commandEffect code))) := selected (transact s code mdi)

theorem takeRst (s u : State) : RowStep u s.takeRst := by
  unfold State.takeRst
  split <;> exact .reset rfl rfl rfl

theorem ofRstAssert {low : Nat} {s t : State} (h : execRstAssert low s = .next t) : RowStep s t := by
  unfold execRstAssert at h
  dsimp only at h
  split_ifs at h <;> cases h
  · exact takeRst s s
  · exact takeRst _ s
  · exact .still ⟨rfl, rfl, rfl⟩

theorem releaseReset (s : State) : RowStep s s.releaseReset := by
  unfold State.releaseReset
  split
  · exact .still ⟨rfl, rfl, rfl⟩
  · exact .reset rfl rfl rfl
  · exact .still ⟨rfl, rfl, rfl⟩

theorem tick (s : State) : RowStep s s.tick := by
  unfold State.tick
  split <;> exact .still ⟨rfl, rfl, rfl⟩

theorem ofResponseRead {p : ReadPeriod} {s t : State} (h : execResponseRead p s = .next t) : RowStep s t := by
  cases p <;> cases h
  · exact selected (.still ⟨rfl, rfl, rfl⟩)
  · exact selected (shortPeriod s _)
  · unfold State.beginPeriod
    split <;> exact .still ⟨rfl, rfl, rfl⟩

/-- Every command is one of these steps. -/
theorem of_exec {c : Instr} {s t : State} (h : exec c s = .next t) : RowStep s t := by
  cases c
  case rstAssert low => exact ofRstAssert h
  case responseRead p => exact ofResponseRead h
  all_goals cases h
  case ingressRequest => exact active (.present _)
  case holdTimerExpiry => exact active .holdExpiry
  case idleExpiry => exact active (.idleExpiry _ _)
  case commitEntry => exact active .commitEntry
  case ingressEntry => exact active .ingressEntry
  case issue => exact active (.issue _)
  case egressResponse => exact active (.memoryResponse _ _)
  case responseTimeout => exact active .responseExpiry
  case deliverResponse => exact active .deliver
  case drainTimerExpiry => exact active .drainExpiry
  case unknownCommand => exact selected (transaction s _ _)
  case timebaseTick => exact tick s
  case powerOnReset => exact .reset rfl rfl rfl
  case resetRelease => exact releaseReset s
  case ident mdi => exact ofCommand s 0x01 mdi
  case readTime mdi => exact ofCommand s 0x02 mdi
  case stage mdi => exact ofCommand s 0x10 mdi
  case withdraw mdi => exact ofCommand s 0x11 mdi
  case flush mdi => exact ofCommand s 0x12 mdi
  case queryWindow mdi => exact ofCommand s 0x13 mdi
  case queryPool mdi => exact ofCommand s 0x14 mdi
  case setCorrection mdi => exact ofCommand s 0x20 mdi
  case setMonitor mdi => exact ofCommand s 0x21 mdi
  case releaseMonitor mdi => exact ofCommand s 0x22 mdi
  case popEvent mdi => exact ofCommand s 0x30 mdi
  case eventStatus mdi => exact ofCommand s 0x31 mdi
  case setTimers mdi => exact ofCommand s 0x40 mdi
  case engineReset mdi => exact ofCommand s 0x41 mdi

end RowStep

end Sys2Proof.Machine

/-! PROOF. The rule of the hold timer (R14, R50): a request is only taken with the timer off, a release stops the timer
before it sorts the request, and every other event leaves the intake and the timer alone. -/

namespace Sys2Proof.Machine

namespace HoldTimerLaw

variable {s t : State}

/-- The rule speaks of the intake and the timer alone. -/
theorem congr (h : HoldTimerLaw s) (hi : t.ig.intake = s.ig.intake) (ht : t.ae.holdTimer = s.ae.holdTimer) :
    HoldTimerLaw t := by
  unfold HoldTimerLaw
  rwa [hi, ht]

theorem of_still (h : HoldTimerLaw s) (hst : LinkStill s t) : HoldTimerLaw t :=
  h.congr (by rw [hst.ig]) (by rw [hst.ae])

/-- The timer is off, and no request is held for EXHAUSTION. -/
theorem of_off (ht : t.ae.holdTimer = none) (hi : ∀ h, t.ig.intake = .holding h → h.reason ≠ .exhaustion) :
    HoldTimerLaw t :=
  iff_of_false (by simp [ht]) fun ⟨h, hh, hr⟩ => hi h hh hr

theorem of_no_request (ht : t.ae.holdTimer = none) (hi : ∀ h, t.ig.intake ≠ .holding h) : HoldTimerLaw t :=
  of_off ht fun h hh => absurd hh (hi h)

/-- With no request held for EXHAUSTION the timer is off. -/
theorem timer_off (h : HoldTimerLaw s) (hi : ∀ x, s.ig.intake ≠ .holding x) : s.ae.holdTimer = none := by
  refine Option.not_isSome_iff_eq_none.1 fun hsome => ?_
  obtain ⟨x, hx, -⟩ := h.1 hsome
  exact hi x hx

/-- A sample write handed to AE with the timer off: the timer runs exactly when it is held for EXHAUSTION (R49). -/
theorem takeSamples (ht : s.ae.holdTimer = none) (r : Request) (link : Nat) (d : Decoded) (kept : Option Timer) :
    HoldTimerLaw (s.takeSamples r link d kept) := by
  unfold State.takeSamples
  dsimp only
  split
  · exact of_no_request (by simpa using ht) (by simp)
  · exact iff_of_true rfl ⟨_, rfl, rfl⟩
  · exact of_off ht fun h hh => by cases hh; exact HoldReason.noConfusion
  · exact of_no_request (by simpa using ht) (by simp [State.spill, State.offer])

/-- A request sorted with the timer off (R1, R5, R11). -/
theorem classify (ht : s.ae.holdTimer = none) (r : Request) (link : Nat) (kept : Option Timer) :
    HoldTimerLaw (s.classify r link kept) := by
  unfold State.classify
  split
  case h_4 => exact takeSamples ht r link _ kept
  all_goals exact of_no_request (by simpa using ht) (by simp [State.refuse, State.offer])

/-- A release leaves the rule true, whatever held before it (R15). -/
theorem of_release (h : (∀ x, s.ig.intake ≠ .holding x) → HoldTimerLaw s) : HoldTimerLaw s.release := by
  unfold State.release
  split
  · exact h (by simp_all)
  · exact h (by simp_all)
  · exact classify rfl ..

theorem release (h : HoldTimerLaw s) : HoldTimerLaw s.release := of_release fun _ => h

theorem settle (before : State) (h : HoldTimerLaw s) : HoldTimerLaw (State.settle before s) := by
  have hrun : HoldTimerLaw s.keepRun := h.congr (by simp) (by simp)
  unfold State.settle
  dsimp only
  split
  · exact (hrun.congr (t := s.keepRun.finishDrain) (by simp) (by simp)).release
  · exact hrun

/-! ### The rows -/

theorem present (h : HoldTimerLaw s) (r : Request) : HoldTimerLaw (s.present r) := by
  unfold State.present
  split
  · rename_i hready
    have hopen : s.ig.intake = .opened := by
      simp only [State.igqReady, Bool.and_eq_true, decide_eq_true_eq] at hready
      exact hready.1.2
    have hoff : s.ae.holdTimer = none := h.timer_off (by simp [hopen])
    unfold State.accept
    exact classify (by exact hoff) ..
  · exact h

theorem deliver (h : HoldTimerLaw s) : HoldTimerLaw s.deliver := by
  unfold State.deliver
  repeat' split
  all_goals exact h.congr rfl rfl

theorem holdExpiry (h : HoldTimerLaw s) : HoldTimerLaw s.holdExpiry := by
  unfold State.holdExpiry
  repeat' split
  · exact of_no_request (by simp) (by simp [State.spill, State.offer])
  all_goals exact h

theorem idleExpiry (h : HoldTimerLaw s) (w : Fin 16) (slot : Nat) : HoldTimerLaw (s.idleExpiry w slot) := by
  have hend (i : Fin 64) (a : Accum) : HoldTimerLaw (s.idleEnd i a) := by
    unfold State.idleEnd
    split <;> exact h.congr (by simp) (by simp)
  unfold State.idleExpiry
  repeat' split
  case h_1.isTrue => exact (hend _ _).settle s
  all_goals exact h

theorem forceContexts (h : HoldTimerLaw s) (w : Fin 16) : HoldTimerLaw (s.forceContexts w) := by
  unfold State.forceContexts
  dsimp only
  repeat' split
  all_goals exact h.congr (by simp) (by simp)

theorem drainExpiry (h : HoldTimerLaw s) : HoldTimerLaw s.drainExpiry := by
  unfold State.drainExpiry
  dsimp only
  repeat' split
  · refine settle s (congr (forceContexts (s := State.record ..) ?_ _) rfl rfl)
    exact h.congr rfl rfl
  all_goals exact h

theorem commitEntry (h : HoldTimerLaw s) : HoldTimerLaw s.commitEntry := by
  unfold State.commitEntry
  dsimp only
  repeat' split
  · exact h
  · exact settle s (h.congr (by simp [State.afterUnreachable]) (by simp [State.afterUnreachable]))
  · exact settle s (h.congr (by simp) (by simp))
  · exact h

theorem ingressEntry (h : HoldTimerLaw s) : HoldTimerLaw s.ingressEntry := by
  unfold State.ingressEntry
  split
  · exact h
  · exact h
  · rename_i o ho
    split
    · exact of_no_request (by simpa using h.timer_off (by simp [ho])) (by simp [State.grantIngress])
    · exact h

theorem issue (h : HoldTimerLaw s) (ready : Bool) : HoldTimerLaw (s.issue ready) := by
  unfold State.issue State.send
  dsimp only
  repeat' split
  all_goals exact h.congr (by simp) (by simp)

theorem memoryResponse (h : HoldTimerLaw s) (st : LinkStatus) (d : Lanes) : HoldTimerLaw (s.memoryResponse st d) := by
  unfold State.memoryResponse
  dsimp only
  repeat' split
  all_goals exact h.congr (by simp) (by simp)

theorem responseExpiry (h : HoldTimerLaw s) : HoldTimerLaw s.responseExpiry := by
  unfold State.responseExpiry
  repeat' split
  all_goals exact h.congr (by simp) (by simp)

/-- A command: head processing leaves intake and timer alone, and an engine reset stops the timer and releases (R64). -/
theorem command (h : HoldTimerLaw s) (hs : CommandStep s t) : HoldTimerLaw t := by
  cases hs with
  | still hst => exact h.of_still hst
  | stage p =>
    unfold State.stageProgram
    split
    · exact (h.congr (t := processHeads [p] s) (by simp) (by simp)).release
    · exact h.congr rfl rfl
  | withdraw w =>
    unfold State.withdrawAll
    dsimp only
    repeat' split
    · exact h
    · exact release (h.congr (by simp) (by simp))
    · exact release (h.congr (by simp) (by simp))
    · exact h.congr rfl rfl
  | flush w =>
    unfold State.flushWindow
    dsimp only
    split <;> exact settle s (h.congr (by simp) (by simp))
  | engineReset n k => exact of_release (of_no_request rfl)

theorem row (h : HoldTimerLaw s) (hs : RowStep s t) : HoldTimerLaw t := by
  cases hs with
  | still hst => exact h.of_still hst
  | present r => exact h.present r
  | deliver => exact h.deliver
  | holdExpiry => exact h.holdExpiry
  | idleExpiry w slot => exact h.idleExpiry w slot
  | drainExpiry => exact h.drainExpiry
  | commitEntry => exact h.commitEntry
  | ingressEntry => exact h.ingressEntry
  | issue ready => exact h.issue ready
  | memoryResponse st d => exact h.memoryResponse st d
  | responseExpiry => exact h.responseExpiry
  | command received ran stored => exact ((h.of_still received).command ran).of_still stored
  | reset hig hae _ => exact of_no_request (by rw [hae]; rfl) (by rw [hig]; exact fun _ => Intake.noConfusion)

end HoldTimerLaw

/-- Settles O53: no row but a release or a request taken touches the timer or the intake, and each leaves the rule. -/
theorem holdTimerLawKept : Obligations.HoldTimerLawKept := by
  unfold Obligations.HoldTimerLawKept
  intro s t hs hstep
  unfold step at hstep
  split at hstep
  · cases hstep; exact hs
  · rename_i rest _
    exact HoldTimerLaw.row (s := { s with pending := rest }) hs (RowStep.of_exec hstep)

end Sys2Proof.Machine

/-! PROOF. DELIVER_RESPONSE (R13, R200, R201): the READY head on its lanes, and IGR_VALID, which no row leaves high. -/

namespace Sys2Proof.Machine

/-! ### The delivery -/

/-- An OK READ's data stand on the lanes of its bytes, and every other lane is low (R201). -/
theorem RolEntry.getElem_response (e : RolEntry) (st : LinkStatus) (data : List Byte) (l : Nat) (hl : l < 64) :
    (e.response st data).data[l] =
      if e.kind = .read ∧ st = .ok ∧ e.lane ≤ l then data.getD (l - e.lane) 0 else 0 := by
  have hlow : (toLanes 0 [])[l] = 0 := by simp [getElem_toLanes]
  unfold RolEntry.response
  cases e.kind <;> cases st
  case read.ok => simp [getElem_toLanes]
  all_goals simpa using hlow

section
variable {s : State}

theorem State.deliver_of_empty (h : s.ig.rol = []) : s.deliver = s := by
  rw [State.deliver, h]

theorem State.deliver_of_waiting {e : RolEntry} {rest : List RolEntry} (h : s.ig.rol = e :: rest)
    (hw : e.state = .waiting) : s.deliver = s := by
  rw [State.deliver, h]
  dsimp only
  rw [hw]

theorem State.deliver_of_ready {e : RolEntry} {rest : List RolEntry} (h : s.ig.rol = e :: rest) {st : LinkStatus}
    {data : List Byte} (hr : e.state = .ready st data) :
    s.deliver = (s.sendHead rest (e.response st data)).lowerIgr := by
  rw [State.deliver, h]
  dsimp only
  rw [hr]

/-- While IGR_VALID is high the channel carries the status and the lanes of the response (R200, R201). -/
theorem State.igrPins_sendHead (s : State) (rest : List RolEntry) (st : LinkStatus) (lanes : Lanes) :
    (s.sendHead rest ⟨st, lanes⟩).igrPins = some ⟨decide (st = .error), lanes⟩ := by
  rw [← LinkStatus.level_eq]
  rfl

end

/-! ### IGR_VALID after every command -/

section
variable (s : State)

theorem State.deliver_igrValid (h : s.pins.igrValid = false) : s.deliver.pins.igrValid = false := by
  unfold State.deliver
  repeat' split
  · exact h
  · exact h
  · rfl

/-- A request that issues is put on EGQ's pins, not on IGR's (R201). -/
@[simp] theorem State.send_igrValid (e : EgressEntry) : (s.send e).pins.igrValid = s.pins.igrValid := by
  unfold State.send
  dsimp only
  split <;> simp

theorem State.issue_igrValid (ready : Bool) : (s.issue ready).pins.igrValid = s.pins.igrValid := by
  unfold State.issue
  repeat' split
  all_goals simp

theorem State.present_pins (r : Request) : (s.present r).pins = s.pins := by
  unfold State.present State.accept
  split <;> simp

theorem State.holdExpiry_pins : s.holdExpiry.pins = s.pins := by
  unfold State.holdExpiry
  repeat' split
  all_goals simp

theorem State.idleExpiry_pins (w : Fin 16) (slot : Nat) : (s.idleExpiry w slot).pins = s.pins := by
  unfold State.idleExpiry
  repeat' split
  all_goals simp

theorem State.drainExpiry_pins : s.drainExpiry.pins = s.pins := by
  unfold State.drainExpiry
  dsimp only
  repeat' split
  all_goals simp

theorem State.commitEntry_pins : s.commitEntry.pins = s.pins := by
  unfold State.commitEntry
  dsimp only
  repeat' split
  all_goals simp

theorem State.ingressEntry_pins : s.ingressEntry.pins = s.pins := by
  unfold State.ingressEntry
  repeat' split
  all_goals simp

theorem State.memoryResponse_pins (st : LinkStatus) (d : Lanes) : (s.memoryResponse st d).pins = s.pins := by
  unfold State.memoryResponse
  dsimp only
  repeat' split
  all_goals simp

theorem State.responseExpiry_pins : s.responseExpiry.pins = s.pins := by
  unfold State.responseExpiry
  repeat' split
  all_goals simp

/-- What a command does beside its transaction drives no pin (R172). -/
theorem CommandStep.igrValid {s t : State} (h : CommandStep s t) : t.pins.igrValid = s.pins.igrValid := by
  cases h with
  | still hst => exact hst.igr
  | stage p => unfold State.stageProgram; split <;> simp
  | withdraw w =>
    unfold State.withdrawAll
    dsimp only
    repeat' split
    all_goals simp
  | flush w =>
    unfold State.flushWindow
    dsimp only
    split <;> simp
  | engineReset n k =>
    have hblocks : s.engineResetBlocks.pins = s.pins := rfl
    simp [hblocks]

end

/-- IGR_VALID is low between commands (R200). -/
theorem RowStep.igrValid_low {s t : State} (h : RowStep s t) (hs : s.pins.igrValid = false) :
    t.pins.igrValid = false := by
  cases h with
  | still hst => exact hst.igr.trans hs
  | present r => rwa [State.present_pins]
  | deliver => exact s.deliver_igrValid hs
  | holdExpiry => rwa [State.holdExpiry_pins]
  | idleExpiry w slot => rwa [State.idleExpiry_pins]
  | drainExpiry => rwa [State.drainExpiry_pins]
  | commitEntry => rwa [State.commitEntry_pins]
  | ingressEntry => rwa [State.ingressEntry_pins]
  | issue ready => rwa [State.issue_igrValid]
  | memoryResponse st d => rwa [State.memoryResponse_pins]
  | responseExpiry => rwa [State.responseExpiry_pins]
  | command received ran stored => rw [stored.igr, ran.igrValid, received.igr, hs]
  | reset _ _ hpins => rw [hpins]; rfl

/-- Settles O35, by the head of the list; and IGR_VALID row by row. -/
theorem readyHeadIsDelivered : Obligations.ReadyHeadIsDelivered := by
  unfold Obligations.ReadyHeadIsDelivered
  refine ⟨fun s hr => ?_, fun s h => s.igrPins_low h, fun c s t hs h => (RowStep.of_exec h).igrValid_low hs⟩
  have hexec : exec .deliverResponse s = .next s.deliver := congrArg Host.Outcome.next (State.active_running hr _)
  rw [hexec]
  refine ⟨fun hnil => by rw [State.deliver_of_empty hnil], fun e rest hrol => ⟨fun hw => ?_, fun st data hst => ?_⟩⟩
  · rw [State.deliver_of_waiting hrol hw]
  · exact ⟨(e.response st data).data, by rw [State.deliver_of_ready hrol hst]; rfl, rfl, rfl,
      s.igrPins_sendHead rest st _, e.getElem_response st data⟩

end Sys2Proof.Machine

/-! PROOF. Who will answer each entry of the Response Order List (R3, R9, R12, R14), and the capacities (R3, R119, R137):
what a step can do to the list, the offered or held request and the PASS entries is said once, as a run of changes. -/

namespace Sys2Proof.Machine

/-! ### The list and those who answer it -/

/-- The list entry that a request of the Egress Queue answers: none for a COMMIT (R118). -/
def EgressEntry.answers? (e : EgressEntry) : Option Nat :=
  match e.work with
  | .passRead n => some n
  | .passWrite n => some n
  | .commit _ => none

/-- The list entry of the offered or the held request (R9, R14). -/
def Intake.answers? : Intake → Option Nat
  | .opened => none
  | .offering o => some o.link
  | .holding h => some h.link

/-- The list, its next name, and what the intake and the Egress Queue will answer. -/
structure Duties where
  rol : List RolEntry
  next : Nat
  intake : Option Nat
  queue : List (Option Nat)

/-- The queue's part of the duties. -/
def EG.answers (g : EG) : List (Option Nat) := g.queue.map EgressEntry.answers?

def State.duties (s : State) : Duties := ⟨s.ig.rol, s.ig.nextLink, s.ig.intake.answers?, s.eg.answers⟩

/-- The names that a request in the part carries. -/
def Duties.carried (d : Duties) : List Nat := d.intake.toList ++ d.queue.reduceOption

theorem State.carried_eq (s : State) : s.carried = s.duties.carried := by
  have hcarried : s.carried = s.ig.intake.answers?.toList ++ s.eg.queue.filterMap EgressEntry.answers? := by
    unfold State.carried
    cases s.ig.intake <;> rfl
  rw [hcarried, Duties.carried, State.duties, EG.answers, List.reduceOption, List.filterMap_map]
  rfl

/-- One change of the duties. -/
inductive Duties.Move (d : Duties) : Duties → Prop where
  /-- A request is accepted: its WAITING entry stands at the tail, and the intake will answer it (R2, R3). -/
  | accepted (e : RolEntry) (hlink : e.link = d.next) (hwait : e.state = .waiting) (hopen : d.intake = none)
      (hroom : d.rol.length < 16) :
      Duties.Move d { d with rol := d.rol ++ [e], next := d.next + 1, intake := some d.next }
  /-- The offered or held request is answered (R1, R6, R8, R11). -/
  | answered (n : Nat) (h : d.intake = some n) (st : LinkStatus) (data : List Byte) :
      Duties.Move d { d with rol := d.rol.map (·.makeReady n st data), intake := none }
  /-- The READY head is sent (R13). -/
  | delivered (e : RolEntry) (rest : List RolEntry) (h : d.rol = e :: rest) (hready : e.state ≠ .waiting) :
      Duties.Move d { d with rol := rest }
  /-- The offered request enters the Egress Queue (R122). -/
  | entered (n : Nat) (h : d.intake = some n) (hroom : d.queue.length < 16) :
      Duties.Move d { d with intake := none, queue := d.queue ++ [some n] }
  /-- A record enters the Egress Queue (R123). -/
  | committed (hroom : d.queue.length < 16) : Duties.Move d { d with queue := d.queue ++ [none] }
  /-- A COMMIT entry leaves (R125, R129, R130). -/
  | left (pre post : List (Option Nat)) (h : d.queue = pre ++ none :: post) :
      Duties.Move d { d with queue := pre ++ post }
  /-- A PASS entry leaves and its list entry is answered (R12, R129, R130). -/
  | passed (pre post : List (Option Nat)) (n : Nat) (h : d.queue = pre ++ some n :: post) (st : LinkStatus)
      (data : List Byte) :
      Duties.Move d { d with rol := d.rol.map (·.makeReady n st data), queue := pre ++ post }
  /-- A reset (R17, R136). -/
  | cleared : Duties.Move d ⟨[], 0, none, []⟩

/-- A run of changes of the duties. -/
def Duties.Moves : Duties → Duties → Prop := Relation.ReflTransGen Duties.Move

namespace Duties.Moves

variable {d d' d'' : Duties}

theorem refl (d : Duties) : Duties.Moves d d := Relation.ReflTransGen.refl

theorem trans (h : Duties.Moves d d') (k : Duties.Moves d' d'') : Duties.Moves d d'' := Relation.ReflTransGen.trans h k

/-- A change, of a state whose duties are what the change makes. -/
theorem of_move (h : Duties.Move d d') (he : d'' = d') : Duties.Moves d d'' := he ▸ Relation.ReflTransGen.single h

theorem of_eq (h : d' = d) : Duties.Moves d d' := h ▸ refl d

/-- A run from equal duties: what an operation on a changed state says of the state before. -/
theorem after (h : d' = d) (k : Duties.Moves d' d'') : Duties.Moves d d'' := (of_eq h).trans k

/-- What each change keeps, a run of changes keeps. -/
theorem keeps {P : Duties → Prop} (one : ∀ d d', Duties.Move d d' → P d → P d') (h : Duties.Moves d d') (hp : P d) :
    P d' := by
  induction h with
  | refl => exact hp
  | tail _ hm ih => exact one _ _ hm ih

end Duties.Moves

/-- Duties are read from the Ingress Port and the Egress Queue. -/
theorem State.duties_congr {s t : State} (hig : t.ig = s.ig) (heg : t.eg.answers = s.eg.answers) :
    t.duties = s.duties := by
  simp only [State.duties, hig, heg]

/-! ### Events that leave the duties alone -/

@[simp] theorem EgressEntry.staleWhere_answers (p : Nat → Bool) (e : EgressEntry) :
    (e.staleWhere p).answers? = e.answers? := by
  unfold EgressEntry.staleWhere
  split
  · rename_i l h; simp [EgressEntry.answers?, h]
  · rfl
  · rfl

@[simp] theorem State.resetSlots_answers (s : State) (p : Nat → Bool) : (s.resetSlots p).eg.answers = s.eg.answers := by
  simp [State.resetSlots, EG.answers, Function.comp_def]

theorem State.applyHead_answers (s : State) (p : Program) (rest : List Program) (route : Nat) :
    (s.applyHead p rest route).eg.answers = s.eg.answers := by
  unfold State.applyHead
  split
  · simp
  · exact s.resetSlots_answers _

theorem processHeads_answers (l : List Program) (s : State) : (processHeads l s).eg.answers = s.eg.answers :=
  processHeads_induct (fun t => t.eg.answers = s.eg.answers)
    (apply := fun t p rest _ _ h => (t.applyHead_answers p rest 1).trans h)
    (drain := fun t p _ _ _ _ h => by simpa using h)
    (cut := fun t p rest _ _ _ h => ((t.cutOver p.window).applyHead_answers p rest 4).trans (by simpa using h))
    l s rfl

theorem State.finishDrain_answers (s : State) : s.finishDrain.eg.answers = s.eg.answers := by
  unfold State.finishDrain
  repeat' split
  · rfl
  · exact (processHeads_answers ..).trans (State.applyHead_answers ..)
  · rfl

theorem State.finishDrain_duties (s : State) : s.finishDrain.duties = s.duties :=
  State.duties_congr (by simp) s.finishDrain_answers

theorem State.processHeads_duties (l : List Program) (s : State) : (processHeads l s).duties = s.duties :=
  State.duties_congr (by simp) (processHeads_answers l s)

/-! ### A request is sorted -/

/-- The duties while a request is sorted: nothing but the request itself will answer entry `link`. -/
def State.sorting (s : State) (link : Nat) : Duties := { s.duties with intake := some link }

/-- The request sorted is answered at once, and the intake is OPEN (R1, R6, R8, R11). -/
theorem State.answered_moves {s t : State} {link : Nat} {st : LinkStatus} {data : List Byte}
    (hig : t.ig = ((s.rolReady link st data).setIntake .opened).ig) (heg : t.eg.answers = s.eg.answers) :
    Duties.Moves (s.sorting link) t.duties := by
  refine .of_move (.answered link rfl st data) ?_
  simp only [State.duties, hig, heg]
  rfl

/-- The request sorted stands in the intake, offered or held (R9, R14). -/
theorem State.kept_moves {s t : State} {link : Nat} (hrol : t.ig.rol = s.ig.rol) (hnext : t.ig.nextLink = s.ig.nextLink)
    (hintake : t.ig.intake.answers? = some link) (heg : t.eg = s.eg) : Duties.Moves (s.sorting link) t.duties := by
  refine .of_eq ?_
  simp only [State.duties, State.sorting, hrol, hnext, hintake, heg]

theorem State.takeSamples_duties (s : State) (r : Request) (link : Nat) (d : Decoded) (kept : Option Timer) :
    Duties.Moves (s.sorting link) (s.takeSamples r link d kept).duties := by
  unfold State.takeSamples
  dsimp only
  split
  · refine State.answered_moves (st := .ok) (data := []) ?_ ?_
    · simp only [State.afterPool_frame, State.absorb_frame]
      rfl
    · rw [State.afterPool, State.finishDrain_answers]
      simp
  · exact State.kept_moves rfl rfl rfl rfl
  · exact State.kept_moves rfl rfl rfl rfl
  · exact State.kept_moves (by simp) (by simp) rfl (by simp)

/-- A request that is sorted is answered, or stands in the intake (R1, R5, R11). -/
theorem State.classify_duties (s : State) (r : Request) (link : Nat) (kept : Option Timer) :
    Duties.Moves (s.sorting link) (s.classify r link kept).duties := by
  unfold State.classify
  split
  case h_4 => exact s.takeSamples_duties ..
  case h_5 => exact State.kept_moves rfl rfl rfl rfl
  all_goals exact State.answered_moves rfl rfl

theorem State.release_duties (s : State) : Duties.Moves s.duties s.release.duties := by
  unfold State.release
  split
  · exact .refl _
  · exact .refl _
  · rename_i h hi
    refine .after ?_ (State.classify_duties ..)
    simp [State.sorting, State.duties, hi, Intake.answers?]

theorem State.settle_duties (before s : State) : Duties.Moves s.duties (State.settle before s).duties := by
  have hrun : s.keepRun.duties = s.duties := State.duties_congr (by simp) (by simp)
  unfold State.settle
  dsimp only
  split
  · exact .after (s.keepRun.finishDrain_duties.trans hrun) (State.release_duties _)
  · exact .of_eq hrun

theorem State.present_duties (s : State) (r : Request) : Duties.Moves s.duties (s.present r).duties := by
  unfold State.present
  split
  · rename_i hready
    simp only [State.igqReady, Bool.and_eq_true, decide_eq_true_eq] at hready
    obtain ⟨⟨-, hopen⟩, hroom⟩ := hready
    have hduties : s.duties.intake = none := by simp [State.duties, hopen, Intake.answers?]
    have haccept : s.accept r = (s.accepted r .waiting .opened).classify r s.ig.nextLink none := by
      rw [State.accepted, ← hopen]
      rfl
    rw [haccept]
    exact .trans (.of_move (.accepted ⟨s.ig.nextLink, r.kind, r.size, laneOf r.addr, .waiting⟩ rfl rfl hduties hroom) rfl)
      (State.classify_duties (s.accepted r .waiting .opened) r s.ig.nextLink none)
  · exact .refl _

/-! ### Entries that leave the Egress Queue -/

/-- The first entry that a test finds leaves the queue. -/
theorem EG.answers_eraseP {g : EG} {p : EgressEntry → Bool} {e : EgressEntry} (h : g.queue.find? p = some e) :
    ∃ pre post, g.answers = pre ++ e.answers? :: post ∧ (g.queue.eraseP p).map EgressEntry.answers? = pre ++ post := by
  obtain ⟨hp, before, after, hq, hbefore⟩ := List.find?_eq_some_iff_append.1 h
  refine ⟨before.map EgressEntry.answers?, after.map EgressEntry.answers?, by simp [EG.answers, hq], ?_⟩
  rw [hq, List.eraseP_append_right _ (fun b hb => by simpa using hbefore b hb), List.eraseP_cons_of_pos hp,
    List.map_append]

section
variable {s t : State} {e : EgressEntry} {p : EgressEntry → Bool}

/-- An entry leaves the queue: a COMMIT alone, a PASS entry with the answer to its list entry (R12, R129). -/
theorem State.leave_moves (h : s.eg.queue.find? p = some e) (hqueue : t.eg.queue = s.eg.queue.eraseP p)
    (hcommit : e.answers? = none → t.ig = s.ig)
    (hpass : ∀ n, e.answers? = some n → ∃ st data, t.ig = (s.rolReady n st data).ig) :
    Duties.Moves s.duties t.duties := by
  obtain ⟨pre, post, hbefore, hafter⟩ := EG.answers_eraseP h
  have hanswers : t.eg.answers = pre ++ post := by rw [EG.answers, hqueue, hafter]
  cases he : e.answers? with
  | none =>
    refine .of_move (.left pre post (by rw [← he]; exact hbefore)) ?_
    simp only [State.duties, hcommit he, hanswers]
  | some n =>
    obtain ⟨st, data, hig⟩ := hpass n he
    refine .of_move (.passed pre post n (by rw [← he]; exact hbefore) st data) ?_
    simp only [State.duties, hig, hanswers]
    rfl

theorem State.issuePoints_duties (s : State) : Duties.Moves s.duties s.issuePoints.duties :=
  State.issuePoints_induct (fun t => Duties.Moves s.duties t.duties)
    (fun t e l he hw _ h => h.trans (State.leave_moves he (by simp [dropOldestWaiting]) (fun _ => by simp)
      (by simp [EgressEntry.answers?, hw]))) s (.refl _)

theorem State.timeoutEntry_duties (he : s.oldestIssued = some e) : Duties.Moves s.duties (s.timeoutEntry e).duties := by
  refine State.leave_moves he (by rw [State.timeoutEntry_eg]; rfl) ?_ ?_ <;> unfold State.timeoutEntry
  · cases hw : e.work <;> simp [EgressEntry.answers?, hw]
  · intro n hn
    refine ⟨.error, [], ?_⟩
    cases hw : e.work <;> simp_all [EgressEntry.answers?]

theorem State.completeEntry_duties (he : s.oldestIssued = some e) (st : LinkStatus) (d : Lanes) :
    Duties.Moves s.duties (s.completeEntry e st d).duties := by
  refine State.leave_moves he (by rw [State.completeEntry_eg]; rfl) ?_ ?_ <;> unfold State.completeEntry
  · cases hw : e.work <;> cases st <;> simp [EgressEntry.answers?, hw]
  · intro n hn
    cases hw : e.work with
    | passRead k =>
      obtain rfl : k = n := by simpa [EgressEntry.answers?, hw] using hn
      cases st <;> exact ⟨_, _, rfl⟩
    | passWrite k =>
      obtain rfl : k = n := by simpa [EgressEntry.answers?, hw] using hn
      exact ⟨_, _, rfl⟩
    | commit l => simp [EgressEntry.answers?, hw] at hn

theorem State.startTimer_duties (s : State) : Duties.Moves s.duties s.startTimer.duties :=
  State.startTimer_induct (fun t => Duties.Moves s.duties t.duties)
    (fun _ _ he h => h.trans (State.timeoutEntry_duties he)) (fun _ _ h => h.trans (.of_eq rfl)) s (.refl _)

end

/-! ### The rows -/

section
variable (s : State)

theorem State.deliver_duties : Duties.Moves s.duties s.deliver.duties := by
  unfold State.deliver
  repeat' split
  · exact .refl _
  · exact .refl _
  · rename_i e rest hrol _ st data hst
    exact .of_move (.delivered e rest hrol (by rw [hst]; exact RolState.noConfusion)) rfl

theorem State.holdExpiry_duties : Duties.Moves s.duties s.holdExpiry.duties := by
  unfold State.holdExpiry
  split
  · rename_i h _ hi _
    split
    · refine .of_eq ?_
      simp [State.duties, State.spill, State.offer, hi, Intake.answers?]
    · exact .refl _
  all_goals exact .refl _

@[simp] theorem State.idleEnd_ig (i : Fin 64) (a : Accum) : (s.idleEnd i a).ig = s.ig := by
  unfold State.idleEnd
  split <;> simp

theorem State.idleExpiry_duties (w : Fin 16) (slot : Nat) : Duties.Moves s.duties (s.idleExpiry w slot).duties := by
  unfold State.idleExpiry
  repeat' split
  case h_1.isTrue => exact .after (State.duties_congr (by simp) (by rw [State.idleEnd_eg])) (State.settle_duties ..)
  all_goals exact .refl _

@[simp] theorem State.idleEnd_pa (i : Fin 64) (a : Accum) : (s.idleEnd i a).pa = s.pa := by
  unfold State.idleEnd
  split <;> simp

@[simp] theorem State.forceContexts_ig (w : Fin 16) : (s.forceContexts w).ig = s.ig := by
  unfold State.forceContexts
  dsimp only
  repeat' split
  all_goals simp

theorem State.drainExpiry_duties : Duties.Moves s.duties s.drainExpiry.duties := by
  unfold State.drainExpiry
  dsimp only
  repeat' split
  · exact .after (State.duties_congr (by simp) (by simp [State.forceContexts_eg])) (State.settle_duties ..)
  all_goals exact .refl _

theorem State.afterUnreachable_duties : Duties.Moves s.duties s.afterUnreachable.duties := by
  have hrun (t : State) : t.keepRun.duties = t.duties := State.duties_congr (by simp) (by simp)
  have htests (n : Nat) (t : State) : (keepTests n t).duties = t.duties := State.duties_congr (by simp) (by simp)
  unfold State.afterUnreachable
  dsimp only
  rw [hrun]
  exact .after (htests _ { s with freeIdx := s.freeIdx + 1 }) (State.issuePoints_duties _)

/-- A grant adds a COMMIT entry (R123). -/
theorem State.grantCommit_duties (i : Fin 64) (c : Completed) (hroom : s.eg.queue.length < 16) :
    Duties.Moves s.duties (s.grantCommit i c).duties := by
  refine .of_move (.committed (by simpa [State.duties, EG.answers] using hroom)) ?_
  simp [State.duties, State.grantCommit_eg, EG.answers, Completed.entry, EgressEntry.answers?]

theorem State.commitEntry_duties : Duties.Moves s.duties s.commitEntry.duties := by
  unfold State.commitEntry
  dsimp only
  split
  · exact .refl _
  · rename_i i c _
    split
    · rename_i hroom
      refine (s.grantCommit_duties i c (of_decide_eq_true hroom)).trans ?_
      split
      · exact (State.afterUnreachable_duties _).trans (State.settle_duties ..)
      · exact State.settle_duties ..
    · exact .refl _

/-- The intake is OPEN after the grant of the offered request (R122). -/
@[simp] theorem State.grantIngress_intake (o : Offer) : (s.grantIngress o).ig.intake = .opened := rfl

@[simp] theorem Offer.entry_answers (o : Offer) : o.entry.answers? = some o.link := by
  unfold Offer.entry EgressEntry.answers?
  cases o.req.kind <;> rfl

theorem State.ingressEntry_duties : Duties.Moves s.duties s.ingressEntry.duties := by
  unfold State.ingressEntry
  split
  · exact .refl _
  · exact .refl _
  · rename_i o ho
    split
    · rename_i hroom
      have hlength : s.eg.queue.length < 16 := of_decide_eq_true (Bool.and_eq_true_iff.1 hroom).1
      refine .of_move (.entered o.link ?_ (by simpa [State.duties, EG.answers] using hlength)) ?_
      · simp [State.duties, ho, Intake.answers?]
      · simp [State.duties, State.grantIngress_eg, EG.answers, Intake.answers?]
    · exact .refl _

/-- An issue marks an entry, and answers none (R124). -/
theorem map_answers_issueOldest (now : Time) (q : List EgressEntry) :
    (issueOldest now q).map EgressEntry.answers? = q.map EgressEntry.answers? := by
  induction q with
  | nil => rfl
  | cons e q ih =>
    unfold issueOldest
    split
    · rw [List.map_cons, ih, List.map_cons]
    · rfl

theorem State.send_duties (e : EgressEntry) : Duties.Moves s.duties (s.send e).duties := by
  unfold State.send
  dsimp only
  split
  · refine .after ?_ (State.startTimer_duties _)
    exact State.duties_congr rfl (map_answers_issueOldest ..)
  · exact .of_eq (State.duties_congr rfl (map_answers_issueOldest ..))

theorem State.issue_duties (ready : Bool) : Duties.Moves s.duties (s.issue ready).duties := by
  unfold State.issue
  repeat' split
  · exact .refl _
  · exact s.issuePoints_duties
  · exact (s.send_duties _).trans (State.issuePoints_duties _)
  · exact .refl _

theorem State.memoryResponse_duties (st : LinkStatus) (d : Lanes) :
    Duties.Moves s.duties (s.memoryResponse st d).duties := by
  unfold State.memoryResponse
  dsimp only
  repeat' split
  · exact .of_eq rfl
  · rename_i he
    exact (State.completeEntry_duties he st d).trans (State.startTimer_duties _)
  · exact .of_eq rfl

theorem State.responseExpiry_duties : Duties.Moves s.duties s.responseExpiry.duties := by
  unfold State.responseExpiry
  repeat' split
  · rename_i he _
    exact (State.timeoutEntry_duties he).trans (State.startTimer_duties _)
  all_goals exact .refl _

theorem State.stageProgram_duties (p : Program) : Duties.Moves s.duties (s.stageProgram p).duties := by
  unfold State.stageProgram
  split
  · exact .after (State.processHeads_duties ..) (State.release_duties _)
  · exact .of_eq rfl

theorem State.withdrawAll_duties (w : Fin 16) : Duties.Moves s.duties (s.withdrawAll w).duties := by
  unfold State.withdrawAll
  dsimp only
  repeat' split
  · exact .refl _
  · refine .after ?_ (State.release_duties _)
    exact State.processHeads_duties _ ((s.setDrainTimer none).setWinState w .opened)
  · refine .after ?_ (State.release_duties _)
    exact State.processHeads_duties _ (s.setDrainTimer none)
  · exact .of_eq rfl

theorem State.flushWindow_duties (w : Fin 16) : Duties.Moves s.duties (s.flushWindow w).duties := by
  unfold State.flushWindow
  dsimp only
  refine .after ?_ (State.settle_duties ..)
  split <;> exact State.duties_congr (by simp) (by simp)

end

/-- Every row is a run of changes of the duties. -/
theorem rowRel_duties : RowRel fun s t => Duties.Moves s.duties t.duties where
  refl s := .refl s.duties
  trans := .trans
  registers hig _ _ _ heg _ := .of_eq (State.duties_congr hig (by rw [heg]))
  present := State.present_duties
  deliver := State.deliver_duties
  holdExpiry := State.holdExpiry_duties
  idleExpiry := State.idleExpiry_duties
  drainExpiry := State.drainExpiry_duties
  commitEntry := State.commitEntry_duties
  ingressEntry := State.ingressEntry_duties
  issue := State.issue_duties
  memoryResponse := State.memoryResponse_duties
  responseExpiry := State.responseExpiry_duties
  stage s _ p _ _ := s.stageProgram_duties p
  withdraw := State.withdrawAll_duties
  flush s w _ _ := s.flushWindow_duties w
  engineReset s := .of_eq (State.duties_congr rfl (s.resetSlots_answers _))
  release := State.release_duties
  resetBlocks _ _ := .of_move .cleared rfl

/-! ### The laws of the list -/

/-- The capacities of the list and of the Egress Queue (R3, R119). -/
def Duties.Bounded (d : Duties) : Prop := d.rol.length ≤ 16 ∧ d.queue.length ≤ 16

theorem Duties.Bounded.move {d d' : Duties} (hm : Duties.Move d d') (h : d.Bounded) : d'.Bounded := by
  obtain ⟨hrol, hqueue⟩ := h
  cases hm with
  | accepted _ _ _ _ hroom => exact ⟨by simpa using hroom, hqueue⟩
  | answered n _ st data => exact ⟨by simpa using hrol, hqueue⟩
  | delivered e rest hd _ => exact ⟨by simp only [hd, List.length_cons] at hrol; exact Nat.le_of_succ_le hrol, hqueue⟩
  | entered n _ hroom => exact ⟨hrol, by simpa using hroom⟩
  | committed hroom => exact ⟨hrol, by simpa using hroom⟩
  | left pre post hd => exact ⟨hrol, by simp [hd] at hqueue ⊢; omega⟩
  | passed pre post n hd st data => exact ⟨by simpa using hrol, by simp [hd] at hqueue ⊢; omega⟩
  | cleared => exact ⟨Nat.zero_le _, Nat.zero_le _⟩

/-- The names rise, all below the next one (log 15). -/
def Duties.Rising (d : Duties) : Prop :=
  (d.rol.map RolEntry.link).Pairwise (· < ·) ∧ ∀ e ∈ d.rol, e.link < d.next

theorem linkLaw_iff (s : State) : s.duties.Rising ↔ LinkLaw s := Iff.rfl

@[simp] theorem RolEntry.makeReady_link (e : RolEntry) (n : Nat) (st : LinkStatus) (data : List Byte) :
    (e.makeReady n st data).link = e.link := by
  rw [RolEntry.makeReady_eq]
  split <;> rfl

namespace Duties.Rising

variable {d d' : Duties}

/-- Answers change no name. -/
theorem map_makeReady (h : d.Rising) (n : Nat) (st : LinkStatus) (data : List Byte) (k : Option Nat)
    (q : List (Option Nat)) : Duties.Rising ⟨d.rol.map (·.makeReady n st data), d.next, k, q⟩ := by
  obtain ⟨hrise, hbelow⟩ := h
  refine ⟨by simpa [Function.comp_def] using hrise, fun e he => ?_⟩
  obtain ⟨x, hx, rfl⟩ := List.mem_map.1 he
  simpa using hbelow x hx

/-- The next name is above all others. -/
theorem accepted (h : d.Rising) {e : RolEntry} (hlink : e.link = d.next) (k : Option Nat) (q : List (Option Nat)) :
    Duties.Rising ⟨d.rol ++ [e], d.next + 1, k, q⟩ := by
  obtain ⟨hrise, hbelow⟩ := h
  refine ⟨?_, fun x hx => ?_⟩
  · rw [List.map_append, List.pairwise_append]
    refine ⟨hrise, by simp, fun a ha b hb => ?_⟩
    obtain ⟨x, hx, rfl⟩ := List.mem_map.1 ha
    obtain rfl : b = d.next := by simpa [hlink] using hb
    exact hbelow x hx
  · rcases List.mem_append.1 hx with hx | hx
    · exact Nat.lt_succ_of_lt (hbelow x hx)
    · rw [List.mem_singleton.1 hx, hlink]
      exact Nat.lt_succ_self _

theorem move (hm : Duties.Move d d') (h : d.Rising) : d'.Rising := by
  cases hm with
  | accepted e hlink _ _ _ => exact h.accepted hlink _ _
  | answered n _ st data => exact h.map_makeReady n st data _ _
  | passed pre post n _ st data => exact h.map_makeReady n st data _ _
  | delivered e rest hd _ =>
    obtain ⟨hrise, hbelow⟩ := h
    rw [hd] at hrise hbelow
    exact ⟨(List.pairwise_cons.1 hrise).2, fun x hx => hbelow x (List.mem_cons_of_mem e hx)⟩
  | entered _ _ _ | committed _ | left _ _ _ => exact h
  | cleared => exact ⟨.nil, by simp⟩

end Duties.Rising

/-! ### One owner for each WAITING entry -/

/-- The names of the list's WAITING entries. -/
def Awaited (rol : List RolEntry) (n : Nat) : Prop := ∃ e ∈ rol, e.link = n ∧ e.state = .waiting

/-- Each WAITING entry has one request that will answer it, and no other entry has one (R3, R12). -/
def OwnedBy (names : List Nat) (rol : List RolEntry) : Prop := names.Nodup ∧ ∀ n, n ∈ names ↔ Awaited rol n

theorem ownerLaw_iff (s : State) : OwnedBy s.duties.carried s.duties.rol ↔ OwnerLaw s := by
  unfold OwnerLaw
  rw [State.carried_eq]
  rfl

/-- An answer leaves no WAITING entry of that name, and every other (R3, R12). -/
theorem awaited_makeReady (rol : List RolEntry) (n k : Nat) (st : LinkStatus) (data : List Byte) :
    Awaited (rol.map (·.makeReady n st data)) k ↔ Awaited rol k ∧ k ≠ n := by
  constructor
  · rintro ⟨x, hx, hk, hw⟩
    obtain ⟨e, he, rfl⟩ := List.mem_map.1 hx
    rw [RolEntry.makeReady_eq] at hk hw
    split at hw
    · cases hw
    · rename_i hne
      rw [if_neg hne] at hk
      refine ⟨⟨e, he, hk, hw⟩, ?_⟩
      rintro rfl
      exact hne ⟨hk, hw⟩
  · rintro ⟨⟨e, he, hk, hw⟩, hne⟩
    refine ⟨_, List.mem_map_of_mem he, ?_⟩
    rw [RolEntry.makeReady_eq, if_neg fun h => hne (hk.symm.trans h.1)]
    exact ⟨hk, hw⟩

namespace OwnedBy

variable {names names' : List Nat} {rol : List RolEntry}

/-- The order in which the names are listed does not matter. -/
theorem perm (h : OwnedBy names rol) (hp : names.Perm names') : OwnedBy names' rol := by
  obtain ⟨hnodup, hiff⟩ := h
  exact ⟨hp.nodup_iff.1 hnodup, fun n => hp.mem_iff.symm.trans (hiff n)⟩

/-- The request that answers an entry is gone, and the entry is READY (R12). -/
theorem answered {n : Nat} (h : OwnedBy (n :: names) rol) (st : LinkStatus) (data : List Byte) :
    OwnedBy names (rol.map (·.makeReady n st data)) := by
  obtain ⟨hnodup, hiff⟩ := h
  obtain ⟨hn, hnodup⟩ := List.nodup_cons.1 hnodup
  refine ⟨hnodup, fun k => ?_⟩
  rw [awaited_makeReady, ← hiff, List.mem_cons]
  constructor
  · intro hk
    exact ⟨Or.inr hk, by rintro rfl; exact hn hk⟩
  · rintro ⟨hk, hne⟩
    exact hk.resolve_left hne

/-- A new name, with a WAITING entry at the tail (R3). -/
theorem accepted (h : OwnedBy names rol) {e : RolEntry} (hw : e.state = .waiting)
    (hnew : ∀ x ∈ rol, x.link < e.link) : OwnedBy (e.link :: names) (rol ++ [e]) := by
  obtain ⟨hnodup, hiff⟩ := h
  refine ⟨List.nodup_cons.2 ⟨fun hmem => ?_, hnodup⟩, fun k => ?_⟩
  · obtain ⟨x, hx, hlink, -⟩ := (hiff e.link).1 hmem
    exact absurd (hnew x hx) (by omega)
  · rw [List.mem_cons, hiff]
    constructor
    · rintro (rfl | ⟨x, hx, hk⟩)
      · exact ⟨e, by simp, rfl, hw⟩
      · exact ⟨x, by simp [hx], hk⟩
    · rintro ⟨x, hx, hk, hwx⟩
      rcases List.mem_append.1 hx with hx | hx
      · exact Or.inr ⟨x, hx, hk, hwx⟩
      · exact Or.inl (by rw [← hk, List.mem_singleton.1 hx])

/-- A READY head that is sent answers nothing that waits (R13). -/
theorem delivered {e : RolEntry} (h : OwnedBy names (e :: rol)) (hready : e.state ≠ .waiting) : OwnedBy names rol := by
  obtain ⟨hnodup, hiff⟩ := h
  refine ⟨hnodup, fun n => (hiff n).trans ⟨?_, ?_⟩⟩
  · rintro ⟨x, hx, hk, hw⟩
    rcases List.mem_cons.1 hx with rfl | hx
    · exact absurd hw hready
    · exact ⟨x, hx, hk, hw⟩
  · rintro ⟨x, hx, hk⟩
    exact ⟨x, List.mem_cons_of_mem e hx, hk⟩

theorem move {d d' : Duties} (hm : Duties.Move d d') (hrise : d.Rising) (h : OwnedBy d.carried d.rol) :
    OwnedBy d'.carried d'.rol := by
  unfold Duties.carried at h ⊢
  cases hm with
  | accepted e hlink hw hopen _ =>
    rw [hopen] at h
    rw [← hlink]
    exact h.accepted hw fun x hx => hlink ▸ hrise.2 x hx
  | answered n hn st data =>
    rw [hn] at h
    exact OwnedBy.answered h st data
  | delivered e rest hd hready =>
    rw [hd] at h
    exact h.delivered hready
  | entered n hn _ =>
    rw [hn] at h
    refine h.perm ?_
    simpa [List.reduceOption] using (List.perm_append_singleton n d.queue.reduceOption).symm
  | committed _ => simpa [List.reduceOption] using h
  | left pre post hd =>
    rw [hd] at h
    simpa [List.reduceOption] using h
  | passed pre post n hd st data =>
    rw [hd] at h
    refine OwnedBy.answered (h.perm ?_) st data
    simpa [List.reduceOption] using List.perm_middle (l₁ := d.intake.toList ++ pre.reduceOption)
  | cleared => exact ⟨.nil, by simp [Awaited]⟩

end OwnedBy

/-! ### The Stage Queue (R137) -/

/-- From `s` to `t` the Stage Queue stays within its capacity. -/
def StageBounded (s t : State) : Prop := s.pa.stage.length ≤ 4 → t.pa.stage.length ≤ 4

namespace StageBounded

variable {s t u : State}

theorem of_suffix (h : t.pa.stage <:+ s.pa.stage) : StageBounded s t := h.length_le.trans

theorem of_pa (h : t.pa.stage = s.pa.stage) : StageBounded s t := of_suffix (by rw [h])

theorem trans (h : StageBounded s t) (k : StageBounded t u) : StageBounded s u := fun hs => k (h hs)

theorem settle (before s : State) : StageBounded s (State.settle before s) := by
  have hrun : StageBounded s s.keepRun := of_pa (by simp)
  unfold State.settle
  dsimp only
  split
  · exact hrun.trans (of_suffix ((State.release_stage _).trans (State.finishDrain_stage _)))
  · exact hrun

theorem present (s : State) (r : Request) : StageBounded s (s.present r) := by
  unfold State.present State.accept
  split
  · exact of_suffix (State.classify_stage ..)
  · exact of_pa rfl

theorem idleExpiry (s : State) (w : Fin 16) (slot : Nat) : StageBounded s (s.idleExpiry w slot) := by
  unfold State.idleExpiry
  repeat' split
  case h_1.isTrue => exact (of_pa (by simp)).trans (settle _ _)
  all_goals exact of_pa rfl

theorem drainExpiry (s : State) : StageBounded s s.drainExpiry := by
  unfold State.drainExpiry
  dsimp only
  repeat' split
  · exact (of_pa (by simp [State.forceContexts_pa])).trans (settle _ _)
  all_goals exact of_pa rfl

theorem commitEntry (s : State) : StageBounded s s.commitEntry := by
  unfold State.commitEntry
  dsimp only
  repeat' split
  · exact of_pa rfl
  · exact (of_pa (by simp [State.afterUnreachable])).trans (settle _ _)
  · exact (of_pa (by simp)).trans (settle _ _)
  · exact of_pa rfl

/-- STAGE takes a program only with room in the queue (R139). -/
theorem stageProgram {s : State} (h : s.pa.stage.length < 4) (p : Program) : StageBounded s (s.stageProgram p) := by
  intro _
  unfold State.stageProgram
  split
  · exact (((State.release_stage _).trans (processHeads_stage ..)).length_le).trans (by decide : 1 ≤ 4)
  · rename_i q qs hq
    rw [hq] at h
    simpa using h

theorem withdrawAll (s : State) (w : Fin 16) : StageBounded s (s.withdrawAll w) := fun h =>
  ((s.withdrawAll_stage w).length_le.trans (List.length_filter_le ..)).trans h

theorem flushWindow (s : State) (w : Fin 16) : StageBounded s (s.flushWindow w) := by
  unfold State.flushWindow
  dsimp only
  split <;> exact (of_pa (by simp)).trans (settle _ _)

theorem deliver (s : State) : StageBounded s s.deliver := by
  unfold State.deliver
  repeat' split
  all_goals exact of_pa rfl

theorem holdExpiry (s : State) : StageBounded s s.holdExpiry := by
  unfold State.holdExpiry
  repeat' split
  all_goals exact of_pa (by simp)

theorem ingressEntry (s : State) : StageBounded s s.ingressEntry := by
  unfold State.ingressEntry
  repeat' split
  all_goals exact of_pa (by simp)

theorem issue (s : State) (ready : Bool) : StageBounded s (s.issue ready) := by
  unfold State.issue State.send
  dsimp only
  repeat' split
  all_goals exact of_pa (by simp)

theorem memoryResponse (s : State) (st : LinkStatus) (d : Lanes) : StageBounded s (s.memoryResponse st d) := by
  unfold State.memoryResponse
  dsimp only
  repeat' split
  all_goals exact of_pa (by simp)

theorem responseExpiry (s : State) : StageBounded s s.responseExpiry := by
  unfold State.responseExpiry
  repeat' split
  all_goals exact of_pa (by simp)

/-- Every row keeps the Stage Queue within its capacity. -/
theorem rowRel : RowRel StageBounded where
  refl _ := id
  trans := trans
  registers _ _ _ _ _ hpa := of_pa (by rw [hpa])
  present := present
  deliver := deliver
  holdExpiry := holdExpiry
  idleExpiry := idleExpiry
  drainExpiry := drainExpiry
  commitEntry := commitEntry
  ingressEntry := ingressEntry
  issue := issue
  memoryResponse := memoryResponse
  responseExpiry := responseExpiry
  stage _ _ p _ h := stageProgram h p
  withdraw := withdrawAll
  flush s w _ _ := flushWindow s w
  engineReset _ _ := Nat.zero_le _
  release s := of_suffix s.release_stage
  resetBlocks _ _ _ := Nat.zero_le _

end StageBounded

theorem capacityLaw_iff (s : State) : CapacityLaw s ↔ s.duties.Bounded ∧ s.pa.stage.length ≤ 4 := by
  have hqueue : s.duties.queue.length = s.eg.queue.length := List.length_map _
  unfold Duties.Bounded
  rw [hqueue, and_assoc]
  rfl

/-- Settles O50: a step is a run of changes of the duties, and each keeps the bounds, the order of the names, and one
owner for each WAITING entry. -/
theorem capacityAndLinkLawsKept : Obligations.CapacityAndLinkLawsKept := by
  unfold Obligations.CapacityAndLinkLawsKept
  refine ⟨fun s t hs hstep => ?_, fun s t hs hstep => ?_, fun s t hlink howner hstep => ?_⟩
  · obtain ⟨hbounded, hstage⟩ := (capacityLaw_iff s).1 hs
    exact (capacityLaw_iff t).2 ⟨(rowRel_duties.step hstep).keeps (fun _ _ => Duties.Bounded.move) hbounded,
      StageBounded.rowRel.step hstep hstage⟩
  · exact (rowRel_duties.step hstep).keeps (fun _ _ => Duties.Rising.move) hs
  · have hboth := (rowRel_duties.step hstep).keeps (P := fun d => d.Rising ∧ OwnedBy d.carried d.rol)
      (fun _ _ hm h => ⟨h.1.move hm, OwnedBy.move hm h.1 h.2⟩) ⟨hlink, (ownerLaw_iff s).2 howner⟩
    exact (ownerLaw_iff t).1 hboth.2

end Sys2Proof.Machine

/-! PROOF. The Window Decoder (R4) under the region law (R30), and what IG makes of a request as it is accepted (R1, R5 to
R9): refused at once, or offered unchanged. -/

namespace Sys2Proof.Machine

/-! ### The decoder (R4) -/

/-- Where one window alone answers, the first answer is its answer. -/
theorem findSome?_finRange_of_unique {α : Type} {f : Fin 16 → Option α} {w : Fin 16} {x : α} (hw : f w = some x)
    (hother : ∀ v, v ≠ w → f v = none) : (List.finRange 16).findSome? f = some x := by
  obtain ⟨pre, post, hsplit⟩ := List.append_of_mem (List.mem_finRange w)
  have hpre : pre.findSome? f = none := by
    refine List.findSome?_eq_none_iff.2 fun v hv => hother v ?_
    rintro rfl
    have hnodup := hsplit ▸ List.nodup_finRange 16
    exact (List.nodup_append.1 hnodup).2.2 v hv v (by simp) rfl
  rw [hsplit, List.findSome?_append, hpre, Option.none_or, List.findSome?_cons_of_isSome (by simp [hw]), hw]

/-- A window gives no answer for a byte that lies in none of its regions, or when it is DISABLED (R4). -/
theorem Window.decode_of_outside {x : Window} {a : Nat} (h : x.decodes = true → ∀ g, x.fields.owns g a = false)
    (w : Fin 16) : x.decode w a = none := by
  unfold Window.decode
  cases hd : x.decodes with
  | false => rfl
  | true =>
    have hcapture : x.fields.capture.has a = false := h hd .capture
    have hresult : x.fields.result.has a = false := h hd .result
    simp [hcapture, hresult]

theorem Window.decode_of_capture {x : Window} {a : Nat} (hd : x.decodes = true) (h : x.fields.capture.has a = true)
    (w : Fin 16) :
    x.decode w a = some ⟨w, .capture, (a - x.fields.captureBase.toNat) / x.fields.format.width⟩ := by
  simp [Window.decode, hd, h]

theorem Window.decode_of_result {x : Window} {a : Nat} (hd : x.decodes = true) (hc : x.fields.capture.has a = false)
    (h : x.fields.result.has a = true) (w : Fin 16) :
    x.decode w a = some ⟨w, .result, (a - x.fields.resultBase.toNat) / 8⟩ := by
  simp [Window.decode, hd, hc, h]

section
variable {s : State} {a : Nat} {w : Fin 16}

/-- Under the region law the window that owns a byte answers for it (R30). -/
theorem State.decode_of_owner (hlaw : RegionLaw s) {g : Region} (hd : (s.win w).decodes = true)
    (ho : (s.win w).fields.owns g a = true) {d : Decoded} (h : (s.win w).decode w a = some d) : s.decode a = some d := by
  refine findSome?_finRange_of_unique h fun v hv => Window.decode_of_outside (fun hdv g' => ?_) v
  by_contra hown
  exact hv (hlaw.1 v w g' g a hdv hd (by simpa using hown) ho).1

theorem State.decode_of_capture (hlaw : RegionLaw s) (hd : (s.win w).decodes = true)
    (h : (s.win w).fields.capture.has a = true) : s.decode a =
      some ⟨w, .capture, (a - (s.win w).fields.captureBase.toNat) / (s.win w).fields.format.width⟩ :=
  State.decode_of_owner hlaw (g := .capture) hd h (Window.decode_of_capture hd h w)

theorem State.decode_of_result (hlaw : RegionLaw s) (hd : (s.win w).decodes = true)
    (h : (s.win w).fields.result.has a = true) :
    s.decode a = some ⟨w, .result, (a - (s.win w).fields.resultBase.toNat) / 8⟩ := by
  have hc : (s.win w).fields.capture.has a = false := by
    by_contra hc
    have hsame := hlaw.1 w w .capture .result a hd hd (Bool.not_eq_false _ ▸ hc) h
    exact Region.noConfusion hsame.2
  exact State.decode_of_owner hlaw (g := .result) hd h (Window.decode_of_result hd hc h w)

end

/-- Settles O29, region kind by region kind. -/
theorem decoderAnswers : Obligations.DecoderAnswers := by
  unfold Obligations.DecoderAnswers
  intro s a hlaw
  refine ⟨fun w hd h => State.decode_of_capture hlaw hd h, fun w hd h => State.decode_of_result hlaw hd h, fun h => ?_⟩
  exact List.findSome?_eq_none_iff.2 fun v _ => Window.decode_of_outside (fun hd g => h v g hd) v

/-! ### The tests of R5 -/

section
variable {s : State} {r : Request}

/-- The first byte that passes a test: the bytes before it have no answer that does. -/
theorem State.firstAnswer_eq {f : Decoded → Bool} {pre post : List Nat} {b : Nat} {d : Decoded}
    (hb : r.bytes = pre ++ b :: post) (hd : s.decode b = some d) (hf : f d = true)
    (hpre : ∀ x ∈ pre, ∀ y, s.decode x = some y → f y = false) :
    (s.answers r).findSome? (fun o => o.filter f) = some d := by
  have hnone : (pre.map s.decode).findSome? (fun o => o.filter f) = none := by
    rw [List.findSome?_eq_none_iff]
    intro o ho
    obtain ⟨x, hx, rfl⟩ := List.mem_map.1 ho
    exact Option.filter_eq_none_iff.2 fun y hy => by simp [hpre x hx y hy]
  simp [State.answers, hb, List.findSome?_append, hnone, hd, hf]

theorem State.firstAnswer_none {f : Decoded → Bool} (h : ∀ b ∈ r.bytes, ∀ y, s.decode b = some y → f y = false) :
    (s.answers r).findSome? (fun o => o.filter f) = none := by
  rw [List.findSome?_eq_none_iff]
  intro o ho
  obtain ⟨x, hx, rfl⟩ := List.mem_map.1 ho
  exact Option.filter_eq_none_iff.2 fun y hy => by simp [h x hx y hy]

theorem Decoded.isResult_iff (d : Decoded) : d.isResult = true ↔ d.region = .result := decide_eq_true_iff

theorem Decoded.isCapture_iff (d : Decoded) : d.isCapture = true ↔ d.region ≠ .result := by
  unfold Decoded.isCapture
  cases d.region <;> simp

/-- No byte of the request lies in a result region (R6). -/
theorem State.firstResult_none (h : ∀ b ∈ r.bytes, ∀ y, s.decode b = some y → y.region ≠ .result) :
    s.firstResult r = none :=
  State.firstAnswer_none fun b hb y hy => by simpa [Decoded.isResult] using h b hb y hy

theorem Request.violation_none (hsize : r.size ≠ 0) (hblock : r.addr.toNat % 64 + r.size ≤ 64) :
    r.violation = none := by
  unfold Request.violation laneOf
  rw [if_neg hsize, if_neg (by omega)]

theorem State.sort_of_read (hv : r.violation = none) (hk : r.kind = .read) : s.sort r = .passThrough := by
  simp [State.sort, hv, hk]

/-- A WRITE touching no region (R5). -/
theorem State.sort_of_untouched (hv : r.violation = none) (h : ∀ b ∈ r.bytes, s.decode b = none) :
    s.sort r = .passThrough := by
  have hresult : s.firstResult r = none := State.firstAnswer_none fun b hb y hy => by simp [h b hb] at hy
  have hcapture : s.firstCapture r = none := State.firstAnswer_none fun b hb y hy => by simp [h b hb] at hy
  cases hk : r.kind <;> simp [State.sort, hv, hk, hresult, hcapture]

/-- A WRITE touching a result region (R6). -/
theorem State.sort_of_result (hv : r.violation = none) (hk : r.kind = .write) {d : Decoded}
    (h : s.firstResult r = some d) : s.sort r = .resultWrite d := by
  simp [State.sort, hv, hk, h]

/-- A WRITE touching a capture region and no result region, with a wrong shape (R8). -/
theorem State.sort_of_misshape (hv : r.violation = none) (hk : r.kind = .write) (hresult : s.firstResult r = none)
    {d : Decoded} (h : s.firstCapture r = some d) {cause : Nat} (hm : s.misshape r d.window = some cause) :
    s.sort r = .malformed d cause := by
  simp [State.sort, hv, hk, hresult, h, hm]

/-- One that meets the four conditions is a sample write (R7). -/
theorem State.sort_of_shape (hv : r.violation = none) (hk : r.kind = .write) (hresult : s.firstResult r = none)
    {d : Decoded} (h : s.firstCapture r = some d) (hm : s.misshape r d.window = none) :
    s.sort r = .sampleWrite d := by
  simp [State.sort, hv, hk, hresult, h, hm]

/-- Every byte lies in the capture region of window `w` (R7). -/
theorem State.inside_iff (w : Fin 16) (hresult : ∀ b ∈ r.bytes, ∀ y, s.decode b = some y → y.region ≠ .result) :
    (s.answers r).all (fun o => o.any (fun d => d.isCapture && decide (d.window = w))) = true ↔
      ∀ b ∈ r.bytes, ∃ y, s.decode b = some y ∧ y.window = w := by
  simp only [State.answers, List.all_map, List.all_eq_true, Function.comp_apply, Option.any_eq_true, Bool.and_eq_true,
    decide_eq_true_eq, Decoded.isCapture_iff]
  refine forall₂_congr fun b hb => exists_congr fun y => and_congr_right fun hy => ?_
  exact and_iff_right (hresult b hb y hy)

end

/-! ### The request as it is accepted (R2, R3) -/

section
variable {s : State} {r : Request}

/-- With IGQ_READY low the request stays on the link (R2; log 5). -/
theorem State.present_of_not_ready (h : s.ig.intake ≠ .opened ∨ 16 ≤ s.ig.rol.length) : s.present r = s := by
  have hready : s.igqReady = false := by
    rcases h with h | h
    · simp [State.igqReady, h]
    · simp [State.igqReady, Config.rolEntries, Nat.not_lt.2 h]
  simp [State.present, hready]

/-- The answer to the request just accepted, whose name no other entry has (R12; log 15). -/
theorem State.rolReady_accepted (hlaw : LinkLaw s) (st : LinkStatus) (data : List Byte) (x : Intake) :
    (s.accepted r .waiting x).rolReady s.ig.nextLink st data = s.accepted r (.ready st data) x := by
  have hold : s.ig.rol.map (·.makeReady s.ig.nextLink st data) = s.ig.rol := by
    refine List.map_congr_left (g := id) (fun e he => ?_) |>.trans (List.map_id _)
    rw [RolEntry.makeReady_eq, if_neg fun h => absurd h.1 (hlaw.2 e he).ne]
    rfl
  simp only [State.accepted, State.rolReady, List.map_append, hold]
  simp [RolEntry.makeReady]

/-- What a refusal of the request just accepted leaves (R1, R6, R8). -/
theorem State.refuse_accepted (hlaw : LinkLaw s) (k : EventKind) (d : Option Decoded) (aux : Nat) :
    (s.accepted r .waiting .opened).refuse r s.ig.nextLink k d aux =
      (s.accepted r (.ready .error []) .opened).record k (d.map (·.window)) (d.map (·.slot)) (r.addr.setWidth 32) aux := by
  rw [← State.rolReady_accepted hlaw]
  rfl

/-- INGRESS_REQUEST with IGQ_READY low (R2; log 5). -/
theorem exec_ingress_left (hr : s.hold = .running) (h : s.ig.intake ≠ .opened ∨ 16 ≤ s.ig.rol.length) (k : LinkKind)
    (addr : Addr) (size : BitVec 7) (data : Lanes) (be : BitVec 64) :
    exec (.ingressRequest k addr size data be) s = .next s := by
  show Host.Outcome.next (s.active (·.present (linkRequest k addr size data be))) = _
  rw [State.active_running hr, State.present_of_not_ready h]

end

section
variable {s : State} {kind : LinkKind} {addr : Addr} {size : BitVec 7} {data : Lanes} {be : BitVec 64}

/-- A link violation of the request accepted (R1). -/
theorem exec_ingress_violation (hr : s.hold = .running) (hlaw : LinkLaw s) (hi : s.ig.intake = .opened)
    (hl : s.ig.rol.length < 16) {cause : Nat} (hv : (linkRequest kind addr size data be).violation = some cause) :
    exec (.ingressRequest kind addr size data be) s =
      .next (((s.accepted (linkRequest kind addr size data be) (.ready .error []) .opened)).record .malformed none none
        (addr.setWidth 32) cause) := by
  have hsort : (s.accepted (linkRequest kind addr size data be) .waiting .opened).sort
      (linkRequest kind addr size data be) = .violation cause := by rw [State.sort, hv]
  rw [exec_ingress_accepted rfl hr hi hl, State.classify, hsort]
  exact congrArg Host.Outcome.next (State.refuse_accepted hlaw .malformed none cause)

/-- A request that passes through is offered, its entry WAITING (R9). -/
theorem exec_ingress_offered (hr : s.hold = .running) (hi : s.ig.intake = .opened) (hl : s.ig.rol.length < 16)
    (hs : s.sort (linkRequest kind addr size data be) = .passThrough) :
    exec (.ingressRequest kind addr size data be) s =
      .next (s.accepted (linkRequest kind addr size data be) .waiting
        (.offering ⟨linkRequest kind addr size data be, s.ig.nextLink⟩)) := by
  have hsort : (s.accepted (linkRequest kind addr size data be) .waiting .opened).sort
      (linkRequest kind addr size data be) = .passThrough := hs
  rw [exec_ingress_accepted rfl hr hi hl, State.classify, hsort]
  rfl

/-- A WRITE touching a result region is refused (R6). -/
theorem exec_ingress_resultWrite (hr : s.hold = .running) (hlaw : LinkLaw s) (hi : s.ig.intake = .opened)
    (hl : s.ig.rol.length < 16) {d : Decoded} (hs : s.sort (linkRequest kind addr size data be) = .resultWrite d) :
    exec (.ingressRequest kind addr size data be) s =
      .next ((s.accepted (linkRequest kind addr size data be) (.ready .error []) .opened).record .resultWriteRefused
        (some d.window) (some d.slot) (addr.setWidth 32) 0) := by
  have hsort : (s.accepted (linkRequest kind addr size data be) .waiting .opened).sort
      (linkRequest kind addr size data be) = .resultWrite d := hs
  rw [exec_ingress_accepted rfl hr hi hl, State.classify, hsort]
  exact congrArg Host.Outcome.next (State.refuse_accepted hlaw .resultWriteRefused (some d) 0)

/-- A WRITE touching a capture region with a wrong shape is refused (R8). -/
theorem exec_ingress_malformed (hr : s.hold = .running) (hlaw : LinkLaw s) (hi : s.ig.intake = .opened)
    (hl : s.ig.rol.length < 16) {d : Decoded} {cause : Nat}
    (hs : s.sort (linkRequest kind addr size data be) = .malformed d cause) :
    exec (.ingressRequest kind addr size data be) s =
      .next ((s.accepted (linkRequest kind addr size data be) (.ready .error []) .opened).record .malformed
        (some d.window) (some d.slot) (addr.setWidth 32) cause) := by
  have hsort : (s.accepted (linkRequest kind addr size data be) .waiting .opened).sort
      (linkRequest kind addr size data be) = .malformed d cause := hs
  rw [exec_ingress_accepted rfl hr hi hl, State.classify, hsort]
  exact congrArg Host.Outcome.next (State.refuse_accepted hlaw .malformed (some d) cause)

/-- The byte count on the pins is 0 (R1). -/
theorem violation_of_zero_size (h : size = 0) : (linkRequest kind addr size data be).violation = some 1 := by
  simp [Request.violation, linkRequest, h]

/-- The request crosses a 64-byte block (R1). -/
theorem violation_of_crossing (h : size ≠ 0) (hblock : 64 < addr.toNat % 64 + size.toNat) :
    (linkRequest kind addr size data be).violation = some 2 := by
  have hsize : size.toNat ≠ 0 := fun hz => h (BitVec.eq_of_toNat_eq hz)
  simp [Request.violation, linkRequest, laneOf, hsize, hblock]

theorem violation_of_proper (h : size ≠ 0) (hblock : addr.toNat % 64 + size.toNat ≤ 64) :
    (linkRequest kind addr size data be).violation = none :=
  Request.violation_none (r := linkRequest kind addr size data be) (fun hz => h (BitVec.eq_of_toNat_eq hz)) hblock

end

/-- Settles O30: the request that is left on the link, and the two causes of a violation. -/
theorem linkViolationIsRefused : Obligations.LinkViolationIsRefused := by
  unfold Obligations.LinkViolationIsRefused
  intro s k addr size data be hr r
  refine ⟨fun h => exec_ingress_left hr h .., fun hlaw hi hl => ⟨fun hz => ?_, fun hz hblock => ?_⟩⟩
  · exact exec_ingress_violation hr hlaw hi hl (violation_of_zero_size hz)
  · exact exec_ingress_violation hr hlaw hi hl (violation_of_crossing hz hblock)

/-- Settles O31: neither test of R5 holds of a READ, nor of a WRITE whose bytes have no answer. -/
theorem otherTrafficPasses : Obligations.OtherTrafficPasses := by
  unfold Obligations.OtherTrafficPasses
  intro s k addr size data be hr r hi hl hsize hblock h
  have hv : r.violation = none := violation_of_proper hsize hblock
  refine exec_ingress_offered hr hi hl ?_
  rcases h with hread | hnone
  · exact State.sort_of_read hv hread
  · exact State.sort_of_untouched hv hnone

/-! ### The shape of a WRITE that touches a capture region (R7, R8) -/

section
variable {s : State} {r : Request} {w : Fin 16}

/-- R7's first condition: every byte lies in window `w`'s capture region. -/
def State.Inside (s : State) (r : Request) (w : Fin 16) : Prop := ∀ b ∈ r.bytes, ∃ y, s.decode b = some y ∧ y.window = w

/-- The cause of R8 is the first condition that fails. -/
theorem State.misshape_eq (hresult : ∀ b ∈ r.bytes, ∀ y, s.decode b = some y → y.region ≠ .result) :
    (¬ s.Inside r w → s.misshape r w = some 3) ∧
    (s.Inside r w → s.misshape r w =
      if (r.addr.toNat - (s.win w).fields.captureBase.toNat) % (s.win w).fields.format.width ≠ 0 then some 4
      else if r.size % (s.win w).fields.format.width ≠ 0 then some 5
      else if r.be.all (fun b => b) then none else some 6) := by
  have hinside := State.inside_iff (s := s) w hresult
  unfold State.misshape
  constructor
  · intro h
    have hf := Bool.eq_false_iff.2 fun ht => h (hinside.1 ht)
    simp only [hf, Bool.not_false, if_true]
  · intro h
    simp only [hinside.2 h, Bool.not_true, Bool.false_eq_true, if_false]
    cases r.be.all (fun b => b) <;> rfl

end

/-- Settles O32: the first test of R5, and the second with the cause that `misshape` finds. -/
theorem wrongWritesAreRefused : Obligations.WrongWritesAreRefused := by
  unfold Obligations.WrongWritesAreRefused
  intro s addr size data be hr r hlaw hi hl hsize hblock
  have hv : r.violation = none := violation_of_proper hsize hblock
  refine ⟨fun pre b post d hb hd hregion hpre => ?_, ?_⟩
  · have hfirst : s.firstResult r = some d := State.firstAnswer_eq hb hd (by simp [Decoded.isResult, hregion])
      fun x hx y hy => by simpa [Decoded.isResult] using hpre x hx y hy
    exact exec_ingress_resultWrite hr hlaw hi hl (State.sort_of_result hv rfl hfirst)
  · intro pre b post d hb hd hregion hresult hpre x inside cause n hn
    have hfirst : s.firstCapture r = some d := State.firstAnswer_eq hb hd (by simp [Decoded.isCapture, hregion])
      fun x hx y hy => by simp [hpre x hx] at hy
    obtain ⟨houtside, hinside⟩ := State.misshape_eq (w := d.window) hresult
    refine exec_ingress_malformed hr hlaw hi hl (State.sort_of_misshape hv rfl (State.firstResult_none hresult) hfirst ?_)
    rcases hn with ⟨hout, rfl⟩ | ⟨hin, hbase, rfl⟩ | ⟨hin, hbase, hlength, rfl⟩ | ⟨hin, hbase, hlength, ⟨e, he, hlow⟩, rfl⟩
    · exact houtside hout
    · exact (hinside hin).trans (if_pos hbase)
    · exact (hinside hin).trans ((if_neg (not_not.2 hbase)).trans (if_pos hlength))
    · have hall : r.be.all (fun b => b) = false := List.all_eq_false.2 ⟨e, he, by simp [hlow]⟩
      rw [hall] at hinside
      exact (hinside hin).trans ((if_neg (not_not.2 hbase)).trans (if_neg (not_not.2 hlength)))

/-- Under the region law, a WRITE whose bytes lie in one capture region, with the shape of R7, is a sample write. -/
theorem State.sort_of_capture {s : State} {r : Request} {w : Fin 16} (hlaw : RegionLaw s)
    (hd : (s.win w).decodes = true) (hk : r.kind = .write) (hv : r.violation = none) (hsize : r.size ≠ 0)
    (hin : ∀ a ∈ r.bytes, (s.win w).fields.capture.has a = true)
    (hbase : (r.addr.toNat - (s.win w).fields.captureBase.toNat) % (s.win w).fields.format.width = 0)
    (hlength : r.size % (s.win w).fields.format.width = 0) (hbe : ∀ e ∈ r.be, e = true) :
    s.sort r = .sampleWrite
      ⟨w, .capture, (r.addr.toNat - (s.win w).fields.captureBase.toNat) / (s.win w).fields.format.width⟩ := by
  have hdecode (b : Nat) (hb : b ∈ r.bytes) := State.decode_of_capture hlaw hd (hin b hb)
  have hresult : ∀ b ∈ r.bytes, ∀ y, s.decode b = some y → y.region ≠ .result := by
    intro b hb y hy
    cases (hdecode b hb).symm.trans hy
    exact Region.noConfusion
  obtain ⟨n, hn⟩ := Nat.exists_eq_succ_of_ne_zero hsize
  have hbytes : r.bytes = [] ++ r.addr.toNat :: (List.range n).map (fun j => r.addr.toNat + (j + 1)) := by
    simp [Request.bytes, hn, List.range_succ_eq_map, Function.comp_def]
  have hfirst : s.firstCapture r = some _ :=
    State.firstAnswer_eq hbytes (hdecode _ (by simp [hbytes])) rfl (by simp)
  have hall : r.be.all (fun b => b) = true := List.all_eq_true.2 hbe
  refine State.sort_of_shape hv hk (State.firstResult_none hresult) hfirst ?_
  rw [(State.misshape_eq hresult).2 fun b hb => ⟨_, hdecode b hb, rfl⟩, if_neg (not_not.2 hbase),
    if_neg (not_not.2 hlength), hall]
  rfl

end Sys2Proof.Machine

/-! PROOF. INGRESS_ENTRY (R10, R108, R121, R122): the arbiter's preference, the entry, and what a READ consumes. -/

namespace Sys2Proof.Machine

/-! ### Consumption (R10, R108) -/

/-- Consumption writes the Slot Status Memory alone. -/
theorem State.consume_eq (s : State) (l : List Nat) : s.consume l = { s with ct := (s.consume l).ct } := by
  unfold State.consume
  induction l generalizing s with
  | nil => rfl
  | cons i l ih => exact ih _

/-- The egress queue and the intake have no part in consumption. -/
theorem State.consume_ct_congr (l : List Nat) {s u : State} (h : s.ct = u.ct) : (s.consume l).ct = (u.consume l).ct := by
  unfold State.consume
  induction l generalizing s u with
  | nil => exact h
  | cons i l ih =>
    refine ih ?_
    rw [State.setSlot_ct, State.setSlot_ct, State.slotAt, State.slotAt, h]

/-- Consumption marks the slots named as read, and no other (R108). -/
theorem State.getElem_consume (s : State) (l : List Nat) (k : Nat) (hk : k < 1024) :
    (s.consume l).ct[k] = if k ∈ l then { s.ct[k] with unread := false } else s.ct[k] := by
  unfold State.consume
  induction l generalizing s with
  | nil => simp
  | cons i l ih =>
    have hstep : (s.setSlot i { s.slotAt i with unread := false }).ct[k] =
        if i = k then { s.ct[k] with unread := false } else s.ct[k] := by
      rw [State.setSlot_ct, Vector.getElem_setIfInBounds hk]
      split
      · rename_i hik
        subst hik
        simp [State.slotAt, hk]
      · rfl
    rw [List.foldl_cons, ih, hstep]
    by_cases hik : i = k <;> by_cases hkl : k ∈ l <;> simp [hik, hkl, Ne.symm]

/-- The slots that a READ consumes: those with a touched byte in a result region (R10). -/
theorem State.mem_consumed_iff (s : State) (r : Request) (k : Nat) : k ∈ s.consumed r ↔
    ∃ a ∈ r.bytes, ∃ d, s.decode a = some d ∧ d.region = .result ∧
      (s.win d.window).fields.slotBase.toNat + d.slot = k := by
  simp only [State.consumed, State.answers, List.mem_filterMap, List.mem_map, Option.map_eq_some_iff,
    Option.filter_eq_some_iff, Decoded.isResult_iff, State.slotIndex]
  constructor
  · rintro ⟨_, ⟨a, ha, rfl⟩, d, ⟨hd, hr⟩, hk⟩
    exact ⟨a, ha, d, hd, hr, hk⟩
  · rintro ⟨a, ha, d, hd, hr, hk⟩
    exact ⟨_, ⟨a, ha, rfl⟩, d, ⟨hd, hr⟩, hk⟩

/-! ### The arbiter (R121) -/

section
variable {s : State}

theorem exec_commitEntry (hr : s.hold = .running) : exec .commitEntry s = .next s.commitEntry :=
  congrArg Host.Outcome.next (State.active_running hr _)

theorem exec_ingressEntry (hr : s.hold = .running) : exec .ingressEntry s = .next s.ingressEntry :=
  congrArg Host.Outcome.next (State.active_running hr _)

/-- With no free position no candidate enters (R121). -/
theorem State.no_entry_of_full (h : s.hasPosition = false) : s.commitEntry = s ∧ s.ingressEntry = s := by
  constructor
  · unfold State.commitEntry
    split
    · rfl
    · simp [h]
  · unfold State.ingressEntry
    split <;> simp [h]

/-- While a commit candidate waits the ingress candidate does not enter (R121). -/
theorem State.ingressEntry_of_candidate (h : s.commitCandidate ≠ none) : s.ingressEntry = s := by
  have hnone : s.commitCandidate.isNone = false := by
    rwa [Option.isNone_eq_false_iff, Option.isSome_iff_ne_none]
  unfold State.ingressEntry
  split <;> simp [hnone]

theorem State.commitEntry_of_none (h : s.commitCandidate = none) : s.commitEntry = s := by
  simp [State.commitEntry, h]

/-- The offered request takes the free position when no commit candidate waits (R122). -/
theorem State.ingressEntry_of_room {o : Offer} (hi : s.ig.intake = .offering o) (hq : s.eg.queue.length < 16)
    (h : s.commitCandidate = none) : s.ingressEntry = s.grantIngress o := by
  have hposition : s.hasPosition = true := decide_eq_true hq
  simp [State.ingressEntry, hi, hposition, h]

end

/-- The request enters exactly as it was accepted (R118). -/
theorem Offer.entry_eq (o : Offer) : o.entry =
    ⟨if o.req.kind = .read then .passRead o.link else .passWrite o.link, o.req.addr, o.req.size, o.req.data, o.req.be,
      none⟩ := by
  unfold Offer.entry
  cases o.req.kind <;> rfl

/-- The Slot Status Memory after the grant of the offered request: a READ consumes, a WRITE does not (R108). -/
def State.consumedBy (s : State) (r : Request) : Vector SlotStatus 1024 :=
  if r.kind = .read then (s.consume (s.consumed r)).ct else s.ct

/-- The grant of the offered request, in one state (R122). -/
theorem State.grantIngress_eq (s : State) (o : Offer) : s.grantIngress o = { s with
    ig := { s.ig with intake := .opened }
    eg := { s.eg with queue := s.eg.queue ++ [o.entry] }
    ct := s.consumedBy o.req } := by
  unfold State.grantIngress State.consumedBy
  cases o.req.kind with
  | read =>
    simp only [if_true]
    rw [State.consume_eq, State.consume_ct_congr (s := s.setQueue (s.eg.queue ++ [o.entry])) (u := s) _ rfl]
    rfl
  | write => rfl

/-- Settles O42: the arbiter's preference, and the grant with what it consumes. -/
theorem ingressEntryEntersAndConsumes : Obligations.IngressEntryEntersAndConsumes := by
  unfold Obligations.IngressEntryEntersAndConsumes
  refine ⟨fun s hr => ?_, fun s o hr hi hq hnone => ?_⟩
  · rw [exec_commitEntry hr, exec_ingressEntry hr]
    refine ⟨fun hfull => ?_, fun h => by rw [State.ingressEntry_of_candidate h],
      fun h => by rw [State.commitEntry_of_none h]⟩
    obtain ⟨hcommit, hingress⟩ := State.no_entry_of_full (s := s) (by simp [State.hasPosition, Config.egressQueue, hfull])
    rw [hcommit, hingress]
    exact ⟨rfl, rfl⟩
  · refine ⟨s.consumedBy o.req, ?_, fun hk => ?_, fun hk k hlt => ?_⟩
    · rw [exec_ingressEntry hr, State.ingressEntry_of_room hi hq hnone, State.grantIngress_eq, Offer.entry_eq]
    · simp [State.consumedBy, hk]
    · have hct : (s.consumedBy o.req)[k] =
          if k ∈ s.consumed o.req then { s.ct[k] with unread := false } else s.ct[k] := by
        simp only [State.consumedBy, hk, if_true]
        exact s.getElem_consume _ k hlt
      rw [hct]
      refine ⟨fun h => if_pos ((s.mem_consumed_iff o.req k).2 h), fun h => if_neg ?_⟩
      rw [State.mem_consumed_iff]
      rintro ⟨a, ha, d, hd, hregion, hslot⟩
      exact h a ha d hd hregion hslot

end Sys2Proof.Machine

/-! PROOF. EGRESS_RESPONSE (R12, R111, R112, R127 to R129, R132): the late responses, and the answer to the oldest ISSUED
entry with the timeouts behind it. -/

namespace Sys2Proof.Machine

/-- What the response leaves behind outside the Egress Port, by the kind of the entry it answers (R12, R111, R112,
R129). -/
def State.respond (s : State) (e : EgressEntry) (st : LinkStatus) (data : Lanes) : State :=
  match e.work with
  | .passRead rol => s.rolReady rol st (if st = .ok then fromLanes data (laneOf e.addr) e.size else [])
  | .passWrite rol => s.rolReady rol st []
  | .commit l => if st = .ok then s else s.commitError l 1

theorem State.completeEntry_eq (s : State) (e : EgressEntry) (st : LinkStatus) (data : Lanes) :
    s.completeEntry e st data = (s.setQueue (dropOldestIssued s.eg.queue)).respond e st data := by
  unfold State.completeEntry State.respond
  cases e.work <;> cases st <;> rfl

theorem State.setEg_respond (s : State) (e : EgressEntry) (st : LinkStatus) (data : Lanes) (g : EG) :
    (s.respond e st data).setEg g = (s.setEg g).respond e st data := by
  unfold State.respond
  cases e.work
  case commit l =>
    cases st
    · rfl
    · exact State.setEg_commitFailure (s.record ..) l g
  all_goals rfl

/-- The bytes of a READ's answer, on the lanes of its address (R201). -/
theorem fromLanes_eq (data : Lanes) (lane n : Nat) :
    fromLanes data lane n = (List.range n).map (fun j => data.toList.getD ((lane + j) % 64) 0) := by
  refine List.map_congr_left fun j _ => ?_
  have hlt : (lane + j) % 64 < 64 := Nat.mod_lt _ (by decide)
  rw [laneByte, List.getD_eq_getElem _ _ (by simpa using hlt)]
  rfl

/-- With responses awaited for abandoned entries, a response is counted off (R128). -/
theorem State.memoryResponse_of_abandoned {s : State} {n : Nat} (h : s.eg.abandoned = n + 1) (st : LinkStatus)
    (data : Lanes) : s.memoryResponse st data =
      (s.setAbandoned n).record .lateResponse none none (BitVec.ofNat 32 n) 1 := by
  simp [State.memoryResponse, h]

/-- With no ISSUED entry a response is unmatched (R128). -/
theorem State.memoryResponse_of_unmatched {s : State} (h : s.eg.abandoned = 0)
    (hq : ∀ e ∈ s.eg.queue, e.isIssued = false) (st : LinkStatus) (data : Lanes) :
    s.memoryResponse st data = s.record .lateResponse none none 0 2 := by
  have hnone : s.oldestIssued = none := by simpa [State.oldestIssued] using hq
  simp [State.memoryResponse, h, hnone]

/-- The response answers the head, and the timer starts on the queue behind it (R127, R129). -/
theorem State.memoryResponse_of_head {s : State} {e : EgressEntry} {old post : List EgressEntry}
    (hq : s.eg.queue = e :: (old ++ post)) (he : e.isIssued = true) (h : s.eg.abandoned = 0)
    (hexpired : ∀ x ∈ old, x.isIssued = true ∧ s.mp.responseLimit.toNat ≤ x.age s.mp.timebase)
    (hyoung : ∀ x ∈ post, x.isIssued = true → x.age s.mp.timebase < s.mp.responseLimit.toNat) (st : LinkStatus)
    (data : Lanes) : s.memoryResponse st data = old.foldl State.expireEntry
      ((s.setEg ⟨post, old.length, if post.any EgressEntry.isIssued then some s.mp.responseLimit else none⟩).respond
        e st data) := by
  have heg : (s.completeEntry e st data).eg = { s.eg with queue := old ++ post } := by
    rw [State.completeEntry_eg, hq, dropOldestIssued, List.eraseP_cons_of_pos he]
  have hmp : (s.completeEntry e st data).mp = s.mp := by simp
  have hrun := State.startTimer_of_expired_run old (s.completeEntry e st data) (by rw [heg]) (by rwa [hmp]) (by rwa [hmp])
  have hport : (s.completeEntry e st data).eg.afterTimeouts old.length post s.mp.responseLimit =
      ⟨post, old.length, if post.any EgressEntry.isIssued then some s.mp.responseLimit else none⟩ := by
    simp [EG.afterTimeouts, heg, h]
  rw [hmp, hport, State.completeEntry_eq, State.setEg_respond] at hrun
  have hoff : ¬ 0 < s.eg.abandoned := by omega
  simp only [State.memoryResponse, hoff, if_false, State.oldestIssued_of_head hq he, State.completeEntry_eq]
  exact hrun

/-- Settles O45: the two late responses, and the answer by the kind of the oldest ISSUED entry. -/
theorem responseCompletesItsEntry : Obligations.ResponseCompletesItsEntry := by
  unfold Obligations.ResponseCompletesItsEntry
  intro s st data hr
  have hexec : exec (.egressResponse st data) s = .next (s.memoryResponse st data) :=
    congrArg Host.Outcome.next (State.active_running hr _)
  rw [hexec]
  refine ⟨fun n hn => by rw [State.memoryResponse_of_abandoned hn]; rfl,
    fun h hq => by rw [State.memoryResponse_of_unmatched h hq], ?_⟩
  intro e old post h hq he hexpired hyoung t bytes answered failed gone
  rw [State.memoryResponse_of_head hq he h hexpired hyoung]
  have hanswered (u : State) (link : Nat) (x : LinkStatus) (d : List Byte) : u.rolReady link x d = answered u link x d :=
    State.rolReady_eq u link x d
  have hgone : State.expireEntry = gone := by
    funext u x
    simp only [gone, State.expireEntry]
    cases x.work
    case commit l => exact State.commitFailure_eq (u.record ..) l
    all_goals exact hanswered _ _ _ _
  have hbytes : fromLanes data (laneOf e.addr) e.size = bytes := fromLanes_eq ..
  rw [hgone, State.respond]
  refine ⟨fun link hw => ?_, fun link hw => ?_, fun l hw hst => ?_, fun l hw hst => ?_⟩
  · simp only [hw, hanswered, hbytes]
    rfl
  · simp only [hw, hanswered]
    rfl
  · simp only [hw, hst, if_true]
    rfl
  · simp only [hw, hst, reduceCtorEq, if_false]
    refine congrArg (fun u => Host.Outcome.next (old.foldl gone u)) ?_
    exact State.commitFailure_eq (t.record ..) l

end Sys2Proof.Machine

/-! PROOF. The operations of the pool and of the programs neither read nor write the intake and the port: done with a
request held, or with another reply stored, they do what they do without. -/

namespace Sys2Proof.Machine

/-- The same part with another intake and another port. -/
def State.refront (s : State) (f : Intake → Intake) (g : PortState → PortState) : State :=
  { s with ig := { s.ig with intake := f s.ig.intake }, mp := { s.mp with port := g s.mp.port } }

/-- The same monitor evaluation, on the part with another intake and another port. -/
def Eval.refront (e : Eval) (f : Intake → Intake) (g : PortState → PortState) : Eval := ⟨e.s.refront f g, e.r, e.withhold⟩

section
variable (s : State) (f : Intake → Intake) (g : PortState → PortState)

/-! ### Completions -/

@[simp] theorem State.refront_ctx : (s.refront f g).ctx = s.ctx := rfl
@[simp] theorem State.refront_lookup : (s.refront f g).lookup = s.lookup := rfl
@[simp] theorem State.refront_commitList : (s.refront f g).ae.commitList = s.ae.commitList := rfl

theorem Eval.turn_refront (w : Fin 16) (slot : Nat) (e : Eval) (m : Fin 4) :
    Eval.turn w slot (e.refront f g) m = (Eval.turn w slot e m).refront f g := by
  have hmon : (e.refront f g).s.mon = e.s.mon := rfl
  have hr : (e.refront f g).r = e.r := rfl
  unfold Eval.turn
  dsimp only
  rw [hmon, hr]
  split_ifs <;> rfl

theorem evaluate_refront (w : Fin 16) (slot : Nat) (r : Result) :
    evaluate (s.refront f g) w slot r = (evaluate s w slot r).refront f g :=
  List.foldl_hom (fun e : Eval => e.refront f g) (init := ⟨s, r, none⟩) (fun e m => Eval.turn_refront f g w slot e m)

theorem State.complete_refront (i : Fin 64) (p m : Bool) :
    (s.refront f g).complete i p m = (s.complete i p m).refront f g := by
  unfold State.complete
  rw [State.refront_ctx]
  cases s.ctx i with
  | free => rfl
  | committing c => rfl
  | opened a =>
    have hform : formResult ((s.refront f g).applying a.window a.slot) ((s.refront f g).win a.window).fields a p =
        formResult (s.applying a.window a.slot) (s.win a.window).fields a p := rfl
    dsimp only
    rw [hform, evaluate_refront]
    obtain ⟨u, r, withhold⟩ := evaluate s a.window a.slot (formResult (s.applying a.window a.slot) _ a p)
    cases withhold <;> rfl

theorem State.completeAll_refront (l : List (Fin 64)) (p m : Bool) :
    (s.refront f g).completeAll l p m = (s.completeAll l p m).refront f g :=
  List.foldl_hom (fun t : State => t.refront f g) (init := s) (fun t i => t.complete_refront f g i p m)

/-! ### An absorption -/

theorem State.allocate_refront (w : Fin 16) (slot : Nat) :
    (s.refront f g).allocate w slot = (s.allocate w slot).refront f g := by
  have hfree : (s.refront f g).firstFree = s.firstFree := rfl
  unfold State.allocate
  rw [State.refront_lookup, hfree]
  cases s.lookup w slot with
  | some i => rfl
  | none => cases s.firstFree <;> rfl

theorem State.addSample_refront (w : Fin 16) (p : Nat × BitVec 48) :
    (s.refront f g).addSample w p = (s.addSample w p).refront f g := by
  unfold State.addSample
  rw [State.refront_lookup, State.refront_ctx]
  cases s.lookup w p.1 with
  | none => rfl
  | some i => dsimp only; cases s.ctx i <;> rfl

theorem State.completeIfFull_refront (w : Fin 16) (slot : Nat) :
    (s.refront f g).completeIfFull w slot = (s.completeIfFull w slot).refront f g := by
  have hwin : (s.refront f g).win = s.win := rfl
  unfold State.completeIfFull
  rw [State.refront_lookup, State.refront_ctx, hwin]
  cases s.lookup w slot with
  | none => rfl
  | some i =>
    dsimp only
    cases s.ctx i with
    | free => rfl
    | committing c => rfl
    | opened a =>
      dsimp only
      rw [State.complete_refront]
      split <;> rfl

theorem State.absorb_refront (w : Fin 16) (l : List (Nat × BitVec 48)) :
    (s.refront f g).absorb w l = (s.absorb w l).refront f g := by
  have hallocate : (s.refront f g).allocateAll w l = (s.allocateAll w l).refront f g :=
    List.foldl_hom (fun t : State => t.refront f g) (init := s) (fun t p => t.allocate_refront f g w p.1)
  have hadd (u : State) : (u.refront f g).addAll w l = (u.addAll w l).refront f g :=
    List.foldl_hom (fun t : State => t.refront f g) (init := u) (fun t p => t.addSample_refront f g w p)
  have hfull (u : State) : (u.refront f g).completeFull w l = (u.completeFull w l).refront f g :=
    List.foldl_hom (fun t : State => t.refront f g) (init := u) (fun t p => t.completeIfFull_refront f g w p.1)
  unfold State.absorb
  rw [hallocate, hadd, ← hfull]
  rfl

/-! ### Leaving the Commit List -/

theorem State.flushLeave_refront (w : Fin 16) (mark entered : Bool) :
    (s.refront f g).flushLeave w mark entered = (s.flushLeave w mark entered).refront f g := by
  have hflush : (s.refront f g).flushOf = s.flushOf := rfl
  unfold State.flushLeave
  dsimp only
  rw [hflush]
  split_ifs <;> rfl

theorem State.keepDiscard_refront (i : Fin 64) (c : Completed) :
    (s.refront f g).keepDiscard i c = (s.keepDiscard i c).refront f g := by
  unfold State.keepDiscard
  dsimp only
  rw [← State.flushLeave_refront]
  rfl

theorem State.keepTest_refront : (s.refront f g).keepTest = s.keepTest.refront f g := by
  have hhit : (s.refront f g).keepHit = s.keepHit := rfl
  unfold State.keepTest
  rw [State.refront_commitList, State.refront_ctx, hhit]
  cases s.ae.commitList with
  | nil => rfl
  | cons i rest =>
    dsimp only
    cases s.ctx i with
    | free => rfl
    | opened a => rfl
    | committing c =>
      dsimp only
      split
      · exact (s.setCommitList rest).keepDiscard_refront f g i c
      · rfl

theorem keepTests_refront (n : Nat) : keepTests n (s.refront f g) = (keepTests n s).refront f g := by
  induction n generalizing s with
  | zero => rfl
  | succ n ih => rw [keepTests, State.keepTest_refront, ih, keepTests]

theorem State.keepRun_refront : (s.refront f g).keepRun = s.keepRun.refront f g :=
  keepTests_refront s f g _

theorem State.grantCommit_refront (i : Fin 64) (c : Completed) :
    (s.refront f g).grantCommit i c = (s.grantCommit i c).refront f g := by
  have hslot : (s.refront f g).slotAt ((s.refront f g).slotIndex c.acc.window c.acc.slot) =
      s.slotAt (s.slotIndex c.acc.window c.acc.slot) := rfl
  unfold State.grantCommit
  dsimp only
  rw [hslot, ← State.flushLeave_refront]
  cases (s.slotAt (s.slotIndex c.acc.window c.acc.slot)).unread <;> rfl

/-! ### Unreachable records -/

theorem State.commitError_refront (l : CommitLink) (aux : Nat) :
    (s.refront f g).commitError l aux = (s.commitError l aux).refront f g := by
  have hslot : (s.refront f g).slotAt = s.slotAt := rfl
  rw [State.commitError_eq, State.commitError_eq, hslot]
  split_ifs <;> rfl

theorem issuePointsFuel_refront (n : Nat) :
    issuePointsFuel n (s.refront f g) = (issuePointsFuel n s).refront f g := by
  induction n generalizing s with
  | zero => rfl
  | succ n ih =>
    have holdest : (s.refront f g).oldestWaiting = s.oldestWaiting := rfl
    unfold issuePointsFuel
    rw [holdest]
    cases s.oldestWaiting with
    | none => rfl
    | some e =>
      dsimp only
      cases e.work with
      | passRead rol => rfl
      | passWrite rol => rfl
      | commit l =>
        dsimp only
        split
        · rw [← ih, ← State.commitError_refront]
          rfl
        · rfl

theorem State.afterUnreachable_refront : (s.refront f g).afterUnreachable = s.afterUnreachable.refront f g := by
  have hpoints (u : State) : (u.refront f g).issuePoints = u.issuePoints.refront f g := issuePointsFuel_refront u f g _
  unfold State.afterUnreachable
  dsimp only
  rw [← State.keepRun_refront, ← hpoints, ← keepTests_refront]
  rfl

/-! ### Programs -/

theorem State.applyHead_refront (p : Program) (rest : List Program) (route : Nat) :
    (s.refront f g).applyHead p rest route = (s.applyHead p rest route).refront f g := by
  have hconflict : (s.refront f g).conflict p = s.conflict p := rfl
  unfold State.applyHead
  rw [hconflict]
  cases s.conflict p <;> rfl

theorem State.discard_refront (w : Fin 16) (i : Fin 64) : (s.refront f g).discard w i = (s.discard w i).refront f g := by
  unfold State.discard
  rw [State.refront_ctx]
  cases (s.ctx i).acc? with
  | none => rfl
  | some a => dsimp only; split <;> rfl

theorem State.discardAll_refront (w : Fin 16) (l : List (Fin 64)) :
    l.foldl (fun t i => t.discard w i) (s.refront f g) = (l.foldl (fun t i => t.discard w i) s).refront f g :=
  List.foldl_hom (fun t : State => t.refront f g) (init := s) (fun t i => t.discard_refront f g w i)

theorem State.flushDiscard_refront (w : Fin 16) (n : Nat) :
    (s.refront f g).flushDiscard w n = (s.flushDiscard w n).refront f g := by
  have hflush : (s.refront f g).flushOf = s.flushOf := rfl
  unfold State.flushDiscard
  dsimp only
  rw [hflush]
  split_ifs <;> rfl

theorem State.cutOver_refront (w : Fin 16) : (s.refront f g).cutOver w = (s.cutOver w).refront f g := by
  have hlist : (s.refront f g).setCommitList ((s.refront f g).ae.commitList.filter fun i =>
      !((s.refront f g).ctx i).inWindow w) =
      (s.setCommitList (s.ae.commitList.filter fun i => !(s.ctx i).inWindow w)).refront f g := rfl
  have hpool : (s.refront f g).ae.pool = s.ae.pool := rfl
  have hrecord (u : State) (n : BitVec 32) : (u.refront f g).record .contextsDiscarded (some w) none n 3 =
      (u.record .contextsDiscarded (some w) none n 3).refront f g := rfl
  unfold State.cutOver
  dsimp only
  rw [hlist, hpool, State.discardAll_refront, hrecord, State.flushDiscard_refront, State.keepRun_refront]

theorem processHeads_refront (l : List Program) :
    processHeads l (s.refront f g) = (processHeads l s).refront f g := by
  induction l generalizing s with
  | nil => rfl
  | cons p rest ih =>
    have hstage : (s.refront f g).setStage (p :: rest) = (s.setStage (p :: rest)).refront f g := rfl
    have hwin : ((s.setStage (p :: rest)).refront f g).win = (s.setStage (p :: rest)).win := rfl
    have hholds : ((s.setStage (p :: rest)).refront f g).holdsContexts = (s.setStage (p :: rest)).holdsContexts := rfl
    unfold processHeads
    dsimp only
    rw [hstage, hwin, hholds, State.applyHead_refront, ih]
    split
    · rfl
    · cases ((s.setStage (p :: rest)).win p.window).fields.switch
      case restart =>
        dsimp only
        rw [State.cutOver_refront, State.applyHead_refront, ih]
      case _ => rfl

@[simp] theorem State.drainEnds_refront : (s.refront f g).drainEnds = s.drainEnds := rfl

theorem State.finishDrain_refront : (s.refront f g).finishDrain = s.finishDrain.refront f g := by
  have hstage : (s.refront f g).pa.stage = s.pa.stage := rfl
  have hwin : (s.refront f g).win = s.win := rfl
  have hholds : (s.refront f g).holdsContexts = s.holdsContexts := rfl
  unfold State.finishDrain
  rw [hstage, hwin, hholds]
  cases s.pa.stage with
  | nil => rfl
  | cons p rest =>
    dsimp only
    split
    · rw [← processHeads_refront, ← State.applyHead_refront]
      rfl
    · rfl

/-! ### The timers -/

theorem State.idleEnd_refront (i : Fin 64) (a : Accum) : (s.refront f g).idleEnd i a = (s.idleEnd i a).refront f g := by
  have hwin : (s.refront f g).win = s.win := rfl
  unfold State.idleEnd
  rw [hwin]
  cases (s.win a.window).fields.idleAction with
  | flushPartial => exact s.complete_refront f g i true false
  | discard => rfl

theorem State.forceContexts_refront (w : Fin 16) :
    (s.refront f g).forceContexts w = (s.forceContexts w).refront f g := by
  have hwin : (s.refront f g).win = s.win := rfl
  have horder : (s.refront f g).openInOrder = s.openInOrder := rfl
  have hopen : (s.refront f g).openOf = s.openOf := rfl
  unfold State.forceContexts
  rw [hwin, horder, hopen]
  cases (s.win w).fields.idleAction with
  | flushPartial => exact s.completeAll_refront f g _ true false
  | discard =>
    dsimp only
    rw [State.discardAll_refront]
    split <;> rfl

end

end Sys2Proof.Machine

/-! PROOF. HOLD_TIMER_EXPIRY, and the rows that end in one release of the held request (R15, R16, R18, R48, R51, R142,
R153, R155). -/

namespace Sys2Proof.Machine

section
variable (s : State) (p : PortState)

/-! ### The release does not see the port -/

theorem State.takeSamples_setPort (r : Request) (link : Nat) (d : Decoded) (kept : Option Timer) :
    (s.setPort p).takeSamples r link d kept = (s.takeSamples r link d kept).setPort p := by
  have hdisposition : (s.setPort p).disposition = s.disposition := rfl
  unfold State.takeSamples
  dsimp only
  rw [hdisposition, State.setPort_win]
  cases s.disposition d.window d.slot (r.size / (s.win d.window).fields.format.width) with
  | absorbed =>
    have hready : (((s.setPort p).setIntake .opened).rolReady link .ok []) =
        ((s.setIntake .opened).rolReady link .ok []).refront id fun _ => p := rfl
    dsimp only [State.afterPool]
    rw [hready, State.absorb_refront, State.keepRun_refront, State.finishDrain_refront]
    rfl
  | holdExhaustion => rfl
  | holdDrain => rfl
  | spill cause => rfl

theorem State.release_setPort : (s.setPort p).release = s.release.setPort p := by
  have hsort : (s.setPort p).sort = s.sort := rfl
  unfold State.release
  rw [State.setPort_ig]
  cases s.ig.intake with
  | opened => rfl
  | offering o => rfl
  | holding h =>
    have htimer : (s.setPort p).setHoldTimer none = (s.setHoldTimer none).setPort p := rfl
    have hkept : (s.setPort p).keptTimer h = s.keptTimer h := rfl
    have hsorts : ((s.setHoldTimer none).setPort p).sort = (s.setHoldTimer none).sort := rfl
    dsimp only [State.classify]
    rw [htimer, hkept, hsorts]
    cases (s.setHoldTimer none).sort h.req with
    | sampleWrite d => exact State.takeSamples_setPort ..
    | _ => rfl

end

/-! ### The end of an event, with a request held and without -/

section
variable {s t u : State} (x : Intake)

/-- A part with a context that became FREE, or with a program less at the head. -/
def State.Frees (s t : State) : Prop := s.freeCount < t.freeCount ∨ t.pa.stage.length < s.pa.stage.length

/-- The end of a drain takes its program off the Stage Queue (R144). -/
theorem State.finishDrain_shortens (h : s.drainEnds = true) : s.finishDrain.pa.stage.length < s.pa.stage.length := by
  unfold State.drainEnds at h
  unfold State.finishDrain
  cases hq : s.pa.stage with
  | nil => simp [hq] at h
  | cons p rest =>
    simp only [hq] at h
    simp only [h, if_true]
    exact Nat.lt_succ_of_le (processHeads_stage rest _).length_le

/-- An event ends in a release when it frees a context or ends a drain, which is to say takes a program off (R48). -/
theorem State.settle_releases_iff (h : t.pa.stage = s.pa.stage) :
    (t.keepRun.drainEnds || decide (s.freeCount < t.keepRun.freeCount)) = true ↔ s.Frees t.keepRun.finishDrain := by
  have hstage : t.keepRun.pa.stage = s.pa.stage := by simpa using h
  unfold State.Frees
  cases hd : t.keepRun.drainEnds with
  | true =>
    have hshorter := State.finishDrain_shortens hd
    rw [hstage] at hshorter
    simp [hshorter]
  | false =>
    rw [State.finishDrain_of_not_ends hd, hstage]
    simp

/-- The end of an event without a held request is the KEEP run and the end of a drain (R48, R144). -/
theorem State.settle_of_opened (h : t.ig.intake = .opened) : State.settle s t = t.keepRun.finishDrain := by
  have hrelease : t.keepRun.finishDrain.release = t.keepRun.finishDrain :=
    State.release_of_noHeld fun x hx => by simp [h] at hx
  unfold State.settle
  dsimp only
  rw [hrelease]
  split
  · rfl
  · rename_i hc
    rw [Bool.not_eq_true, Bool.or_eq_false_iff] at hc
    exact (State.finishDrain_of_not_ends hc.1).symm

/-- The end of an event with another intake is the same end, and a release where the event frees something (R48). -/
theorem State.settle_setIntake (h : t.pa.stage = s.pa.stage) :
    (s.Frees t.keepRun.finishDrain →
      State.settle (s.setIntake x) (t.setIntake x) = (t.keepRun.finishDrain.setIntake x).release) ∧
    (¬ s.Frees t.keepRun.finishDrain →
      State.settle (s.setIntake x) (t.setIntake x) = t.keepRun.finishDrain.setIntake x) := by
  have hkeep : (t.setIntake x).keepRun = t.keepRun.setIntake x := t.keepRun_refront (fun _ => x) id
  have hfinish : (t.keepRun.setIntake x).finishDrain = t.keepRun.finishDrain.setIntake x :=
    t.keepRun.finishDrain_refront (fun _ => x) id
  have hends : (t.keepRun.setIntake x).drainEnds = t.keepRun.drainEnds := rfl
  have hfree (v : State) : (v.setIntake x).freeCount = v.freeCount := rfl
  rw [← State.settle_releases_iff h]
  unfold State.settle
  dsimp only
  rw [hkeep, hends, hfree, hfree, hfinish]
  refine ⟨fun hc => if_pos hc, fun hc => (if_neg hc).trans ?_⟩
  rw [Bool.not_eq_true, Bool.or_eq_false_iff] at hc
  rw [State.finishDrain_of_not_ends hc.1]

end

theorem State.afterUnreachable_ig (s : State) : s.afterUnreachable.ig = s.ig := by simp [State.afterUnreachable]

theorem State.flushed_setIntake (s : State) (x : Intake) (w : Fin 16) (n : Nat) :
    (s.setIntake x).flushed w n = (s.flushed w n).setIntake x := by
  unfold State.flushed
  split <;> rfl

theorem State.lookup_setIntake (s : State) (x : Intake) : (s.setIntake x).lookup = s.lookup := rfl

/-- An event of the pool on a part with the intake OPEN: with any intake it does nothing, or it makes the same change and
ends with `settle`. -/
def State.PoolEvent (u : State) (f : State → State) : Prop :=
  (∀ x, f (u.setIntake x) = u.setIntake x) ∨
  ∃ t : State, t.ig.intake = .opened ∧ t.pa.stage = u.pa.stage ∧ ∀ x,
    f (u.setIntake x) = State.settle (u.setIntake x) (t.setIntake x)

/-- What an event does with request `h` held, from what it does without: the same, and one release when it frees. -/
def State.EndsInRelease (u : State) (h : Held) (f : State → State) : Prop :=
  (u.Frees (f u) → f (u.setIntake (.holding h)) = ((f u).setIntake (.holding h)).release) ∧
  (¬ u.Frees (f u) → f (u.setIntake (.holding h)) = (f u).setIntake (.holding h))

theorem State.setIntake_self {u : State} {x : Intake} (h : u.ig.intake = x) : u.setIntake x = u := by
  subst h
  rfl

theorem State.not_frees_self (u : State) : ¬ u.Frees u := by simp [State.Frees]

theorem State.PoolEvent.endsInRelease {u : State} {f : State → State} (h : u.PoolEvent f) (hu : u.ig.intake = .opened)
    (held : Held) : u.EndsInRelease held f := by
  unfold State.EndsInRelease
  rcases h with hidle | ⟨t, ht, hstage, hf⟩
  · have hfu : f u = u := by simpa only [State.setIntake_self hu] using hidle .opened
    rw [hfu, hidle]
    exact ⟨fun h => absurd h u.not_frees_self, fun _ => rfl⟩
  · have hfu : f u = t.keepRun.finishDrain := by
      simpa only [State.setIntake_self hu, State.setIntake_self ht, State.settle_of_opened ht] using hf .opened
    rw [hfu, hf]
    exact State.settle_setIntake _ hstage

/-! ### The events -/

section
variable {u : State} (hu : u.ig.intake = .opened)

include hu in
theorem State.commitEntry_poolEvent : u.PoolEvent State.commitEntry := by
  cases hc : u.commitCandidate with
  | none => exact .inl fun x => State.commitEntry_of_none (s := u.setIntake x) hc
  | some ic =>
    obtain ⟨i, c⟩ := ic
    have hentry (v : State) (hv : v.commitCandidate = some (i, c)) : v.commitEntry =
        if v.hasPosition then State.settle v (if c.unreachable then (v.grantCommit i c).afterUnreachable
          else v.grantCommit i c) else v := by
      unfold State.commitEntry
      rw [hv]
    have hgrant (x : Intake) : (u.setIntake x).grantCommit i c = (u.grantCommit i c).setIntake x :=
      u.grantCommit_refront (fun _ => x) id i c
    have hafter (x : Intake) : ((u.grantCommit i c).setIntake x).afterUnreachable =
        (u.grantCommit i c).afterUnreachable.setIntake x := (u.grantCommit i c).afterUnreachable_refront (fun _ => x) id
    cases hp : u.hasPosition with
    | false => exact .inl fun x => (hentry (u.setIntake x) hc).trans (if_neg (ne_true_of_eq_false hp))
    | true =>
      refine .inr ⟨if c.unreachable then (u.grantCommit i c).afterUnreachable else u.grantCommit i c, ?_, ?_, fun x => ?_⟩
      · split
        · rw [State.afterUnreachable_ig]
          simp [hu]
        · simp [hu]
      · split
        · rw [State.afterUnreachable_pa]
          simp
        · simp
      · refine (hentry (u.setIntake x) hc).trans ((if_pos hp).trans ?_)
        rw [hgrant, hafter]
        split <;> rfl

include hu in
theorem State.idleExpiry_poolEvent (w : Fin 16) (slot : Nat) : u.PoolEvent (·.idleExpiry w slot) := by
  unfold State.PoolEvent State.idleExpiry
  dsimp only
  simp only [State.setIntake_ctx, State.lookup_setIntake]
  cases u.lookup w slot with
  | none => exact .inl fun x => rfl
  | some i =>
    dsimp only
    cases u.ctx i with
    | free => exact .inl fun x => rfl
    | committing c => exact .inl fun x => rfl
    | opened a =>
      cases hdue : u.idleDue a with
      | false => exact .inl fun x => if_neg (ne_true_of_eq_false hdue)
      | true =>
        refine .inr ⟨u.idleEnd i a, by simp [hu], by simp, fun x => (if_pos hdue).trans ?_⟩
        exact congrArg (State.settle (u.setIntake x)) (u.idleEnd_refront (fun _ => x) id i a)

include hu in
theorem State.drainExpiry_poolEvent : u.PoolEvent State.drainExpiry := by
  unfold State.PoolEvent State.drainExpiry
  dsimp only
  simp only [State.setIntake_pa, State.setIntake_win, State.setIntake_mp]
  cases hq : u.pa.stage with
  | nil => exact .inl fun x => rfl
  | cons p rest =>
    cases u.pa.drainTimer with
    | none => exact .inl fun x => rfl
    | some tm =>
      dsimp only
      by_cases hdue : (u.win p.window).state = .draining .normal ∧ tm.due u.mp.timebase
      · refine .inr ⟨(((u.setDrainTimer none).record .drainForced (some p.window) none
          (BitVec.ofNat 32 (u.openOf p.window)) 0).forceContexts p.window).setWinState p.window (.draining .forced),
          by simp [hu], by simp [State.forceContexts_pa, hq], fun x => (if_pos hdue).trans ?_⟩
        refine congrArg (State.settle (u.setIntake x)) ?_
        exact congrArg (State.setWinState · p.window (.draining .forced))
          (State.forceContexts_refront ((u.setDrainTimer none).record .drainForced (some p.window) none
            (BitVec.ofNat 32 (u.openOf p.window)) 0) (fun _ => x) id p.window)
      · exact .inl fun x => if_neg hdue

include hu in
theorem State.flushWindow_settles (w : Fin 16) : ∃ t : State, t.ig.intake = .opened ∧ t.pa.stage = u.pa.stage ∧
    ∀ x, (u.setIntake x).flushWindow w = State.settle (u.setIntake x) (t.setIntake x) := by
  have heq (v : State) : v.flushWindow w = State.settle v ((v.completeAll (v.openInOrder w) true true).flushed w
      ((v.completeAll (v.openInOrder w) true true).ae.commitList.length - v.ae.commitList.length)) := rfl
  refine ⟨(u.completeAll (u.openInOrder w) true true).flushed w
      ((u.completeAll (u.openInOrder w) true true).ae.commitList.length - u.ae.commitList.length), by simp [hu], by simp,
    fun x => (heq _).trans (congrArg (State.settle (u.setIntake x)) ?_)⟩
  have hall : (u.setIntake x).completeAll ((u.setIntake x).openInOrder w) true true =
      (u.completeAll (u.openInOrder w) true true).setIntake x :=
    u.completeAll_refront (fun _ => x) id (u.openInOrder w) true true
  rw [hall]
  exact State.flushed_setIntake _ x w _

include hu in
theorem flushEffect_poolEvent (args : List Byte) : u.PoolEvent fun v => (flushEffect args v).1 := by
  unfold flushEffect
  cases windowArg (byteAt args 0) with
  | none => exact .inl fun x => rfl
  | some w =>
    dsimp only [State.PoolEvent]
    simp only [State.setIntake_win, State.setIntake_flushOf]
    by_cases hdecodes : (u.win w).decodes = true
    · by_cases hbusy : 0 < (u.flushOf w).outstanding
      · exact .inl fun x => by simp [hdecodes, hbusy]
      · simp only [hdecodes, hbusy, Bool.not_true, Bool.false_eq_true, if_false]
        exact .inr (State.flushWindow_settles hu w)
    · exact .inl fun x => by simp [hdecodes]

theorem flushEffect_reply (args : List Byte) (v : State) (x : Intake) :
    (flushEffect args (v.setIntake x)).2 = (flushEffect args v).2 := by
  have hflush : (v.setIntake x).flushOf = v.flushOf := rfl
  unfold flushEffect
  cases windowArg (byteAt args 0) with
  | none => rfl
  | some w =>
    dsimp only
    rw [State.setIntake_win, hflush]
    split_ifs <;> rfl

include hu in
/-- A FLUSH with a request held, whatever the verdict on its frame (R48, R175). -/
theorem State.transact_flush_endsInRelease (mdi : List Bool) (held : Held) :
    u.EndsInRelease held (·.transact 0x12 mdi flushEffect) := by
  have hrefused (r : Reply) : u.EndsInRelease held fun v => ((v.receive 0x12 mdi).floatMdo).store r :=
    ⟨fun h => absurd h u.not_frees_self, fun _ => rfl⟩
  unfold State.transact
  dsimp only
  cases judge (keptBytes 0x12 mdi) with
  | badFrame => exact hrefused _
  | badCrc => exact hrefused _
  | badCmd => exact hrefused _
  | badArg => exact hrefused _
  | run args =>
    have hheld : ((u.setIntake (.holding held)).receive 0x12 mdi).floatMdo =
        (u.receive 0x12 mdi).floatMdo.setIntake (.holding held) := rfl
    have hevent := (flushEffect_poolEvent (u := (u.receive 0x12 mdi).floatMdo) hu args).endsInRelease hu held
    obtain ⟨hfrees, hkeeps⟩ := hevent
    unfold State.EndsInRelease
    dsimp only at hfrees hkeeps ⊢
    rw [hheld, flushEffect_reply]
    refine ⟨fun h => ?_, fun h => ?_⟩
    · rw [hfrees h, State.store, ← State.release_setPort]
      rfl
    · rw [hkeeps h]
      rfl

end

/-! ### The commands whose head program changes, and ENGINE_RESET -/

section
variable {u : State} (held : Held)

/-- A command whose effect ends in a release of the held request ends in it as well (R174). -/
theorem State.transact_releases {code : Byte} {mdi : List Bool} {effect : List Byte → State → State × Reply}
    {a : List Byte} (hx : Executes code mdi a)
    (h : effect a ((u.receive code mdi).floatMdo.setIntake (.holding held)) =
      (((effect a (u.receive code mdi).floatMdo).1.setIntake (.holding held)).release,
        (effect a (u.receive code mdi).floatMdo).2)) :
    (u.setIntake (.holding held)).transact code mdi effect =
      ((u.transact code mdi effect).setIntake (.holding held)).release := by
  have hheld : ((u.setIntake (.holding held)).receive code mdi).floatMdo =
      (u.receive code mdi).floatMdo.setIntake (.holding held) := rfl
  rw [State.transact_run _ _ _ _ _ hx, State.transact_run _ _ _ _ _ hx, hheld, h, State.store, ← State.release_setPort]
  rfl

/-- A command whose effect leaves the held request where it is leaves it as well (R174). -/
theorem State.transact_keeps {code : Byte} {mdi : List Bool} {effect : List Byte → State → State × Reply}
    {a : List Byte} (hx : Executes code mdi a)
    (h : effect a ((u.receive code mdi).floatMdo.setIntake (.holding held)) =
      ((effect a (u.receive code mdi).floatMdo).1.setIntake (.holding held),
        (effect a (u.receive code mdi).floatMdo).2)) :
    (u.setIntake (.holding held)).transact code mdi effect =
      (u.transact code mdi effect).setIntake (.holding held) := by
  have hheld : ((u.setIntake (.holding held)).receive code mdi).floatMdo =
      (u.receive code mdi).floatMdo.setIntake (.holding held) := rfl
  rw [State.transact_run _ _ _ _ _ hx, State.transact_run _ _ _ _ _ hx, hheld, h]
  rfl

theorem processHeads_setIntake (l : List Program) (s : State) (x : Intake) :
    processHeads l (s.setIntake x) = (processHeads l s).setIntake x := processHeads_refront s (fun _ => x) id l

theorem processHeads_release (l : List Program) (h : u.ig.intake = .opened) :
    (processHeads l u).release = processHeads l u :=
  State.release_of_noHeld fun x hx => by simp [h] at hx

/-- STAGE at an empty Stage Queue ends in a release (R140, R142, R153). -/
theorem stageEffect_first (hu : u.ig.intake = .opened) {a : List Byte} {p : Program} (hp : stagedProgram a = some p)
    (hq : u.pa.stage = []) : stageEffect a (u.setIntake (.holding held)) =
      (((stageEffect a u).1.setIntake (.holding held)).release, (stageEffect a u).2) := by
  have heffect (v : State) (hv : v.pa.stage = []) :
      stageEffect a v = ((processHeads [p] v).release, ⟨.ok, [BitVec.ofNat 8 1]⟩) := by
    rw [stageEffect_program hp, if_pos (by simp [hv]), State.stageProgram, hv]
    rfl
  rw [heffect u hq, heffect (u.setIntake (.holding held)) hq, processHeads_setIntake, processHeads_release _ hu]

/-- STAGE behind a head, or at a full queue, leaves the held request where it is (R139). -/
theorem stageEffect_behind {a : List Byte} {p : Program} (hp : stagedProgram a = some p) (hq : u.pa.stage ≠ []) :
    stageEffect a (u.setIntake (.holding held)) =
      ((stageEffect a u).1.setIntake (.holding held), (stageEffect a u).2) := by
  have hpos : 0 < u.pa.stage.length := List.length_pos_iff.2 hq
  have hjoins (v : State) (hv : v.pa.stage = u.pa.stage) : stageEffect a v = if u.pa.stage.length < 4 then
      (v.setStage (u.pa.stage ++ [p]), ⟨.ok, [BitVec.ofNat 8 (u.pa.stage.length + 1)]⟩) else (v, ⟨.qFull, []⟩) := by
    rw [stageEffect_program hp, State.stageProgram_behind (by rw [hv]; exact hpos), hv]
  rw [hjoins u rfl, hjoins (u.setIntake (.holding held)) rfl]
  split <;> rfl

/-- The drain of window `w` ended by a WITHDRAW of its program (R155). -/
def State.drainWithdrawn (s : State) (w : Fin 16) : State :=
  if (s.win w).state.isDraining then (s.setDrainTimer none).setWinState w .opened else s.setDrainTimer none

/-- When the head program is withdrawn its drain ends, the next head is processed and the request released (R155). -/
theorem State.withdrawAll_head {s : State} {p : Program} {rest : List Program} (hq : s.pa.stage = p :: rest) :
    s.withdrawAll p.window = (processHeads (s.pa.stage.filter fun q => decide (q.window ≠ p.window))
      (s.drainWithdrawn p.window)).release := by
  unfold State.withdrawAll
  dsimp only
  rw [hq]
  exact if_pos rfl

theorem State.drainWithdrawn_setIntake (s : State) (x : Intake) (w : Fin 16) :
    (s.setIntake x).drainWithdrawn w = (s.drainWithdrawn w).setIntake x := by
  unfold State.drainWithdrawn
  rw [State.setIntake_win]
  split <;> rfl

@[simp] theorem State.drainWithdrawn_ig (s : State) (w : Fin 16) : (s.drainWithdrawn w).ig = s.ig := by
  unfold State.drainWithdrawn
  split <;> rfl

/-- WITHDRAW of the head program ends in a release (R155). -/
theorem withdrawEffect_head (hu : u.ig.intake = .opened) {b : Byte} {p : Program} {rest : List Program}
    (hq : u.pa.stage = p :: rest) (hb : p.window.val = b.toNat) : withdrawEffect [b] (u.setIntake (.holding held)) =
      (((withdrawEffect [b] u).1.setIntake (.holding held)).release, (withdrawEffect [b] u).2) := by
  have hopened : (u.drainWithdrawn p.window).ig.intake = .opened := by simp [hu]
  rw [withdrawEffect_window hb, withdrawEffect_window hb, State.withdrawAll_head hq,
    State.withdrawAll_head (s := u.setIntake (.holding held)) hq, State.drainWithdrawn_setIntake, processHeads_setIntake,
    processHeads_release _ hopened]
  rfl

/-- WITHDRAW of other programs, or of none, leaves the held request where it is (R154). -/
theorem withdrawEffect_behind {b : Byte} (h : ∀ p rest, u.pa.stage = p :: rest → p.window.val ≠ b.toNat) :
    withdrawEffect [b] (u.setIntake (.holding held)) =
      ((withdrawEffect [b] u).1.setIntake (.holding held), (withdrawEffect [b] u).2) := by
  by_cases hb : 15 < b.toNat
  · rw [withdrawEffect_refused hb, withdrawEffect_refused hb]
  · have hw : (⟨b.toNat, by omega⟩ : Fin 16).val = b.toNat := rfl
    have hbehind : ∀ p rest, u.pa.stage = p :: rest → p.window ≠ ⟨b.toNat, by omega⟩ := fun p rest hq hp =>
      h p rest hq (by rw [hp])
    rw [withdrawEffect_window hw, withdrawEffect_window hw, State.withdrawAll_behind hbehind,
      State.withdrawAll_behind (s := u.setIntake (.holding held)) hbehind]
    rfl

/-- ENGINE_RESET ends in a release (R18, R185). -/
theorem engineResetEffect_held (hu : u.ig.intake = .opened) (a : List Byte) :
    engineResetEffect a (u.setIntake (.holding held)) =
      (((engineResetEffect a u).1.setIntake (.holding held)).release, (engineResetEffect a u).2) := by
  unfold engineResetEffect
  dsimp only
  rw [State.release_of_noHeld (s := u.engineResetBlocks.record ..) fun x hx => by cases hu.symm.trans hx]
  rfl

end

/-- HOLD_TIMER_EXPIRY of the request held for EXHAUSTION, before its limit and from then on (R16, R51, R52). -/
theorem State.holdExpiry_of_exhaustion {s : State} {h : Held} {tm : Timer} (hi : s.ig.intake = .holding h)
    (hreason : h.reason = .exhaustion) (htm : s.ae.holdTimer = some tm) : s.holdExpiry =
      if tm.limit.toNat ≤ (s.mp.timebase - tm.start).toNat then
        (s.setHoldTimer none).spill h.req h.link h.window h.slot h.samples 3
      else s := by
  simp only [State.holdExpiry, hi, htm, hreason, true_and, Timer.due, elapsed]
  exact if_congr decide_eq_true_iff rfl rfl

theorem next_active {v : State} (hv : v.Listening) (f : State → State) :
    (.next (v.active f) : Host.Outcome State Fault Refusal) = .next (f v) := by rw [State.active_running hv.1]

theorem next_selected {v : State} (hv : v.Listening) (f : State → State) :
    (.next (v.selected f) : Host.Outcome State Fault Refusal) = .next (f v) := by rw [State.selected_listening hv]

/-- Settles O36: the expiry of the hold timer, and what every row that frees does with a request held. -/
theorem holdTimerExpirySpills : Obligations.HoldTimerExpirySpills := by
  unfold Obligations.HoldTimerExpirySpills
  refine ⟨fun s h tm hr hi hreason htm => ?_, fun s h hl hi => ?_⟩
  · have hexec : exec .holdTimerExpiry s = .next s.holdExpiry :=
      congrArg Host.Outcome.next (State.active_running hr _)
    rw [hexec, State.holdExpiry_of_exhaustion hi hreason htm]
    refine ⟨fun hbefore => by rw [if_neg (by omega)], fun hdue => ?_⟩
    rw [if_pos hdue]
    rfl
  intro without again freed
  have hu : without.ig.intake = .opened := rfl
  have hs : s = without.setIntake (.holding h) := (State.setIntake_self hi).symm
  have hlu : without.Listening := hl
  have hrow {f : State → State} {c : Instr} (hc : ∀ v : State, v.Listening → exec c v = .next (f v))
      (hends : without.EndsInRelease h f) : ∃ t, exec c without = .next t ∧
        (freed t → exec c s = .next (again t).release) ∧ (¬ freed t → exec c s = .next (again t)) := by
    obtain ⟨hfrees, hkeeps⟩ := hends
    rw [← hs] at hfrees hkeeps
    exact ⟨f without, hc without hlu, fun hfreed => (hc s hl).trans (congrArg _ (hfrees hfreed)),
      fun hfreed => (hc s hl).trans (congrArg _ (hkeeps hfreed))⟩
  refine ⟨fun c mdi hc => ?_, fun mdi a p hx hp => ?_, fun mdi b hx => ?_, fun mdi hx => ?_⟩
  · rcases hc with rfl | rfl | rfl | ⟨w, slot, rfl⟩
    · exact hrow (fun _ hv => next_active hv _) ((State.commitEntry_poolEvent hu).endsInRelease hu h)
    · exact hrow (fun _ hv => next_active hv _) ((State.drainExpiry_poolEvent hu).endsInRelease hu h)
    · exact hrow (fun _ hv => next_selected hv _) (State.transact_flush_endsInRelease hu mdi h)
    · exact hrow (fun _ hv => next_active hv _) ((State.idleExpiry_poolEvent hu w slot).endsInRelease hu h)
  · refine ⟨_, next_selected hlu _, fun hq => (next_selected hl _).trans ?_, fun hq => (next_selected hl _).trans ?_⟩
    · rw [hs]
      refine congrArg _ (State.transact_releases h hx ?_)
      exact stageEffect_first (u := (without.receive 0x10 mdi).floatMdo) h hu hp hq
    · rw [hs]
      refine congrArg _ (State.transact_keeps h hx ?_)
      exact stageEffect_behind (u := (without.receive 0x10 mdi).floatMdo) h hp hq
  · refine ⟨_, next_selected hlu _, fun hq => (next_selected hl _).trans ?_, fun hq => (next_selected hl _).trans ?_⟩
    · obtain ⟨p, rest, hq, hb⟩ := hq
      rw [hs]
      refine congrArg _ (State.transact_releases h hx ?_)
      exact withdrawEffect_head (u := (without.receive 0x11 mdi).floatMdo) h hu hq hb
    · rw [hs]
      refine congrArg _ (State.transact_keeps h hx ?_)
      exact withdrawEffect_behind (u := (without.receive 0x11 mdi).floatMdo) h hq
  · refine ⟨_, next_selected hlu _, (next_selected hl _).trans ?_⟩
    rw [hs]
    refine congrArg _ (State.transact_releases h hx ?_)
    exact engineResetEffect_held (u := (without.receive 0x41 mdi).floatMdo) h hu []

end Sys2Proof.Machine

/-! PROOF. A sample write that the pool takes (R7, R11, R42, R43): what each touched slot's OPEN context holds after it,
and the contexts that complete full. -/

namespace Sys2Proof.Machine

/-! ### The OPEN context of a touched slot (R42) -/

/-- What the OPEN context of a key holds, or what an allocation would give it (R42). -/
def State.held (s : State) (w : Fin 16) (slot : Nat) : Accum :=
  ((s.lookup w slot).bind fun i => (s.ctx i).acc?).getD ⟨w, slot, 0, 0, 0⟩

theorem State.held_of_lookup {s : State} {w : Fin 16} {slot : Nat} {i : Fin 64} {a : Accum}
    (hl : s.lookup w slot = some i) (ha : s.ctx i = .opened a) : s.held w slot = a := by
  simp [State.held, hl, ha, Context.acc?]

theorem State.held_of_none {s : State} {w : Fin 16} {slot : Nat} (hl : s.lookup w slot = none) :
    s.held w slot = ⟨w, slot, 0, 0, 0⟩ := by
  simp [State.held, hl]

/-- The context that the slot's OPEN context becomes with the sample added now (R42). -/
def State.heldNow (s : State) (w : Fin 16) (p : Nat × BitVec 48) : Accum :=
  ⟨w, p.1, (s.held w p.1).sum + p.2, (s.held w p.1).count + 1, s.mp.timebase⟩

section
variable {s : State} {w : Fin 16} {l : List (Nat × BitVec 48)}

/-- A key that is OPEN keeps its context through the allocations (R42). -/
theorem State.lookup_allocateAll_of_some (hone : OneOpenPerKey s) {slot : Nat} {i : Fin 64}
    (h : s.lookup w slot = some i) : (s.allocateAll w l).lookup w slot = some i := by
  obtain ⟨a, ha, rfl, rfl⟩ := State.lookup_some h
  refine State.lookup_of_open (hone.allocateAll a.window l) ?_
  rcases s.ctx_allocateAll a.window l i with hs | ⟨hf, -⟩
  · rw [hs, ha]
  · cases ha.symm.trans hf

/-- With room in the pool every touched slot has an OPEN context, with its sample added now (R42). -/
theorem State.sampled_now (hone : OneOpenPerKey s) (hn : (l.map Prod.fst).Nodup)
    (hroom : l.countP (fun p => (s.lookup w p.1).isNone) ≤ s.freeCount) {p : Nat × BitVec 48} (hp : p ∈ l) :
    ∃ i, (s.sampled w l).lookup w p.1 = some i ∧ (s.sampled w l).ctx i = .opened (s.heldNow w p) := by
  obtain ⟨i, hi⟩ := Option.isSome_iff_exists.1 (s.lookup_allocateAll w l hroom p hp)
  obtain ⟨a, ha, haw, has⟩ := State.lookup_some hi
  have hmp : (s.allocateAll w l).mp = s.mp := by simp
  have hheld : s.held w p.1 = ⟨w, p.1, a.sum, a.count, (s.held w p.1).lastSampleTime⟩ := by
    rcases s.ctx_allocateAll w l i with hs | ⟨hf, q, -, hs⟩
    · have hopen : s.ctx i = .opened a := hs ▸ ha
      rw [State.held_of_lookup (haw ▸ has ▸ State.lookup_of_open hone hopen) hopen, ← haw, ← has]
    · have hnone : s.lookup w p.1 = none := by
        cases hl : s.lookup w p.1 with
        | none => rfl
        | some j =>
          obtain ⟨b, hb, -, -⟩ := State.lookup_some hl
          obtain rfl : j = i := Option.some.inj ((State.lookup_allocateAll_of_some hone hl).symm.trans hi)
          cases hb.symm.trans hf
      rw [State.held_of_none hnone]
      cases ha.symm.trans hs
      rfl
  refine ⟨i, (congrFun (congrFun (State.lookup_addAll _ w l) w) p.1).trans hi, ?_⟩
  rw [State.sampled_ctx, State.ctx_addAll_self _ w l hn hp hi ha, hmp, State.heldNow, hheld]
  obtain ⟨_, _, _, _, _⟩ := a
  cases haw
  cases has
  rfl

/-- A context in use whose key is not touched stays as it is (R42). -/
theorem State.sampled_ctx_untouched {i : Fin 64} (hi : (s.ctx i).isFree = false)
    (hkey : ∀ p ∈ l, (s.ctx i).isKey w p.1 = false) : (s.sampled w l).ctx i = s.ctx i := by
  have halloc : (s.allocateAll w l).ctx i = s.ctx i := by
    rcases s.ctx_allocateAll w l i with h | ⟨hf, -⟩
    · exact h
    · rw [hf] at hi; cases hi
  rw [State.sampled_ctx, State.ctx_addAll_other, halloc]
  intro p hp hl
  obtain ⟨a, ha, haw, has⟩ := State.lookup_some hl
  have hopen := hkey p hp
  rw [← halloc, ha] at hopen
  simp [Context.isKey, haw, has] at hopen

@[simp] theorem State.sampled_rf : (s.sampled w l).rf = s.rf := by simp [State.sampled]
@[simp] theorem State.sampled_lm : (s.sampled w l).lm = s.lm := by simp [State.sampled]
@[simp] theorem State.sampled_flush : (s.sampled w l).ae.flush = s.ae.flush := by simp [State.sampled]

end

/-! ### The contexts that complete full (R43) -/

/-- The OPEN context of a key, if its count has reached N (R43). -/
def State.reached (s : State) (w : Fin 16) (slot : Nat) : Option (Fin 64) :=
  (s.lookup w slot).filter fun _ => decide ((s.held w slot).count = (s.win w).fields.ratio.toNat)

theorem State.reached_eq_some_iff {s : State} {w : Fin 16} {slot : Nat} {i : Fin 64} : s.reached w slot = some i ↔
    s.lookup w slot = some i ∧ (s.held w slot).count = (s.win w).fields.ratio.toNat := by
  simp [State.reached, Option.filter_eq_some_iff]

/-- The contexts that complete full in an absorption, by slot (R43). -/
def State.fullContexts (s : State) (w : Fin 16) (l : List (Nat × BitVec 48)) : List (Fin 64) :=
  l.filterMap fun p => s.reached w p.1

theorem State.completeIfFull_eq (s : State) (w : Fin 16) (slot : Nat) :
    s.completeIfFull w slot = s.completeAll (s.reached w slot).toList false false := by
  rcases s.completeIfFull_cases w slot with ⟨hs, hne⟩ | ⟨i, a, hi, ha, hc, hs⟩
  · have hnone : s.reached w slot = none := by
      cases hr : s.reached w slot with
      | none => rfl
      | some i =>
        obtain ⟨hl, hcount⟩ := State.reached_eq_some_iff.1 hr
        obtain ⟨a, ha, -, -⟩ := State.lookup_some hl
        rw [State.held_of_lookup hl ha] at hcount
        exact absurd hcount (hne i a hl ha)
    rw [hs, hnone]
    rfl
  · rw [hs, State.reached_eq_some_iff.2 ⟨hi, by rw [State.held_of_lookup hi ha, hc]⟩]
    rfl

/-- A completion has no part in the contexts of other slots (R45). -/
theorem State.lookup_complete_other {s : State} {i : Fin 64} {a : Accum} (ha : s.ctx i = .opened a) (p f : Bool)
    (w : Fin 16) {slot : Nat} (h : slot ≠ a.slot) : (s.complete i p f).lookup w slot = s.lookup w slot := by
  obtain ⟨hother, hself⟩ := s.ctx_complete i p f
  have hkey (j : Fin 64) : ((s.complete i p f).ctx j).isKey w slot = (s.ctx j).isKey w slot := by
    rcases eq_or_ne j i with rfl | hj
    · have hbefore : (s.ctx j).isKey w slot = false := by simp [ha, Context.isKey, Ne.symm h]
      rw [hbefore]
      cases hc : (s.complete j p f).ctx j with
      | opened b => rw [hc] at hself; cases hself
      | free => rfl
      | committing c => rfl
    · rw [hother j hj]
  simp only [State.lookup, hkey]

theorem State.reached_complete_other {s : State} {i : Fin 64} {a : Accum} (ha : s.ctx i = .opened a) (p f : Bool)
    (w : Fin 16) {slot : Nat} (h : slot ≠ a.slot) : (s.complete i p f).reached w slot = s.reached w slot := by
  have hlook := State.lookup_complete_other ha p f w h
  have hshape : (s.complete i p f).shape = s.shape := by simp
  have hheld : (s.complete i p f).held w slot = s.held w slot := by
    unfold State.held
    rw [hlook]
    cases hl : s.lookup w slot with
    | none => rfl
    | some j =>
      obtain ⟨b, hb, -, hs⟩ := State.lookup_some hl
      have hji : j ≠ i := by rintro rfl; cases ha.symm.trans hb; exact h hs.symm
      rw [Option.bind_some, Option.bind_some, (s.ctx_complete i p f).1 j hji]
  rw [State.reached, hlook, hheld, State.fields_of_shape hshape, State.reached]

/-- The full completions of an absorption are the completions of the contexts that have reached N, by slot (R43). -/
theorem State.completeFull_eq_completeAll (s : State) (w : Fin 16) (l : List (Nat × BitVec 48))
    (hn : (l.map Prod.fst).Nodup) : s.completeFull w l = s.completeAll (s.fullContexts w l) false false := by
  induction l generalizing s with
  | nil => rfl
  | cons p l ih =>
    obtain ⟨hp, hn⟩ := List.nodup_cons.1 hn
    have hcons : s.completeFull w (p :: l) = (s.completeIfFull w p.1).completeFull w l := rfl
    rw [hcons, ih _ hn, State.completeIfFull_eq]
    cases hr : s.reached w p.1 with
    | none => simp [State.fullContexts, hr, State.completeAll]
    | some i =>
      obtain ⟨a, ha, -, has⟩ := State.lookup_some (State.reached_eq_some_iff.1 hr).1
      have hrest : (s.complete i false false).fullContexts w l = s.fullContexts w l :=
        List.filterMap_congr fun q hq => State.reached_complete_other ha false false w
          (by rintro h; exact hp (has ▸ h ▸ List.mem_map_of_mem hq))
      have hfull : s.fullContexts w (p :: l) = i :: s.fullContexts w l := List.filterMap_cons_some hr
      rw [hfull, ← hrest]
      rfl

section
variable {s : State} {w : Fin 16} {l : List (Nat × BitVec 48)}

theorem State.mem_fullContexts_iff {i : Fin 64} : i ∈ s.fullContexts w l ↔
    ∃ p ∈ l, s.lookup w p.1 = some i ∧ (s.held w p.1).count = (s.win w).fields.ratio.toNat := by
  simp only [State.fullContexts, List.mem_filterMap, State.reached_eq_some_iff]

theorem State.fullContexts_open {i : Fin 64} (hi : i ∈ s.fullContexts w l) :
    ∃ a, s.ctx i = .opened a ∧ a.window = w := by
  obtain ⟨p, -, hl, -⟩ := State.mem_fullContexts_iff.1 hi
  obtain ⟨a, ha, haw, -⟩ := State.lookup_some hl
  exact ⟨a, ha, haw⟩

/-- The contexts that complete full are in ascending slot order (R43). -/
theorem State.sorted_fullContexts (h : l.Pairwise fun p q => p.1 < q.1) : (s.fullContexts w l).Pairwise
    fun i j => ∀ a b, s.ctx i = .opened a → s.ctx j = .opened b → a.slot < b.slot := by
  refine List.pairwise_filterMap.2 (h.imp fun {p q} hpq i hi j hj a b ha hb => ?_)
  obtain ⟨c, hc, -, hcs⟩ := State.lookup_some (State.reached_eq_some_iff.1 hi).1
  obtain ⟨e, he, -, hes⟩ := State.lookup_some (State.reached_eq_some_iff.1 hj).1
  cases ha.symm.trans hc
  cases hb.symm.trans he
  omega

theorem State.nodup_fullContexts (h : l.Pairwise fun p q => p.1 < q.1) : (s.fullContexts w l).Nodup := by
  refine (State.sorted_fullContexts h).imp_of_mem fun {i j} hi _ hlt hij => ?_
  obtain ⟨a, ha, -⟩ := State.fullContexts_open hi
  exact lt_irrefl _ (hlt a a ha (hij ▸ ha))

end

/-! ### An absorbed write (R42, R43) -/

theorem sorted_samplesOf (fmt : SampleFormat) (data : List Byte) (f k : Nat) :
    (samplesOf fmt data f k).Pairwise fun p q => p.1 < q.1 :=
  List.pairwise_map.2 (List.pairwise_lt_range.imp fun h => Nat.add_lt_add_left h f)

theorem mem_samplesOf {fmt : SampleFormat} {data : List Byte} {f k j : Nat} (hj : j < k) :
    (f + j, sampleAt fmt data j) ∈ samplesOf fmt data f k := List.mem_map.2 ⟨j, List.mem_range.2 hj, rfl⟩

theorem forall_samplesOf {fmt : SampleFormat} {data : List Byte} {f k : Nat} {P : Nat × BitVec 48 → Prop}
    (h : ∀ j < k, P (f + j, sampleAt fmt data j)) : ∀ p ∈ samplesOf fmt data f k, P p := by
  intro p hp
  obtain ⟨j, hj, rfl⟩ := List.mem_map.1 hp
  exact h j (List.mem_range.1 hj)

/-- A sample write that the pool takes, as one next state: the producer has its OK (R11, R12, R42). -/
theorem exec_ingress_absorbed {s : State} {addr : Addr} {size : BitVec 7} {data : Lanes} {be : BitVec 64} {r : Request}
    (heq : r = linkRequest .write addr size data be) (hr : s.hold = .running) (hlaw : LinkLaw s)
    (hi : s.ig.intake = .opened) (hl : s.ig.rol.length < 16) {d : Decoded} (hsort : s.sort r = .sampleWrite d)
    (hroom : s.disposition d.window d.slot (r.size / (s.win d.window).fields.format.width) = .absorbed) :
    exec (.ingressRequest .write addr size data be) s = .next ((s.accepted r (.ready .ok []) .opened).absorb d.window
      (samplesOf (s.win d.window).fields.format r.data d.slot
        (r.size / (s.win d.window).fields.format.width))).afterPool := by
  rw [exec_ingress_accepted heq hr hi hl, State.classify_of_sampleWrite (s := s.accepted r .waiting .opened) hsort,
    State.takeSamples_of_absorbed (s := s.accepted r .waiting .opened) _ _ hroom, ← State.rolReady_accepted hlaw]
  rfl

section
variable {s : State} {w : Fin 16} {l : List (Nat × BitVec 48)}

/-- The state after an absorbed write with its full completions (R43). -/
def State.filled (s : State) (w : Fin 16) (l : List (Nat × BitVec 48)) : State :=
  (s.sampled w l).completeAll ((s.sampled w l).fullContexts w l) false false

theorem State.absorb_eq_filled (hn : (l.map Prod.fst).Nodup) : s.absorb w l = s.filled w l :=
  State.completeFull_eq_completeAll (s.sampled w l) w l hn

theorem State.Unwatched.sampled (h : s.Unwatched w) : (s.sampled w l).Unwatched w := by
  have hmon : (s.sampled w l).mon = s.mon := by
    funext m
    simp only [State.mon, State.sampled_lm]
  unfold State.Unwatched
  rwa [hmon]

/-- With no monitor on the window the full completions change the engine alone (R43, R86). -/
theorem State.filled_spec (hw : s.Unwatched w) (h : l.Pairwise fun p q => p.1 < q.1) :
    s.filled w l = { s.sampled w l with ae := { (s.sampled w l).ae with
      pool := (s.filled w l).ae.pool
      commitList := s.ae.commitList ++ (s.sampled w l).fullContexts w l } } ∧
    (∀ i ∉ (s.sampled w l).fullContexts w l, (s.filled w l).ctx i = (s.sampled w l).ctx i) ∧
    ∀ i ∈ (s.sampled w l).fullContexts w l, ∀ a, (s.sampled w l).ctx i = .opened a → (s.filled w l).ctx i =
      .committing (completedOf (s.win w).fields a false
        (formResult (s.applying w a.slot) (s.win w).fields a false) false) := by
  have hspec := (s.sampled w l).completeAll_of_unwatched hw.sampled false false _ (State.nodup_fullContexts h)
    fun i hi => State.fullContexts_open hi
  have hlist : (s.sampled w l).ae.commitList = s.ae.commitList := by simp
  have hfields : ((s.sampled w l).win w).fields = (s.win w).fields := State.fields_of_shape (by simp) w
  have happlying : (s.sampled w l).applying = s.applying := by
    funext v slot
    simp only [State.applying, State.sampled_rf]
  rw [hlist, hfields, happlying] at hspec
  exact hspec

section
variable (hone : OneOpenPerKey s) (hn : (l.map Prod.fst).Nodup)
  (hroom : l.countP (fun p => (s.lookup w p.1).isNone) ≤ s.freeCount)
include hone hn hroom

theorem State.held_sampled {p : Nat × BitVec 48} (hp : p ∈ l) : (s.sampled w l).held w p.1 = s.heldNow w p := by
  obtain ⟨i, hl, hi⟩ := State.sampled_now hone hn hroom hp
  exact State.held_of_lookup hl hi

/-- A touched slot's context completes full exactly when its count has reached N (R43). -/
theorem State.reached_sampled_iff {p : Nat × BitVec 48} (hp : p ∈ l) {i : Fin 64} :
    (s.sampled w l).reached w p.1 = some i ↔
      (s.sampled w l).lookup w p.1 = some i ∧ (s.heldNow w p).count = (s.win w).fields.ratio.toNat := by
  have hfields : ((s.sampled w l).win w).fields = (s.win w).fields := State.fields_of_shape (by simp) w
  rw [State.reached_eq_some_iff, State.held_sampled hone hn hroom hp, hfields]

theorem State.length_fullContexts : ((s.sampled w l).fullContexts w l).length =
    l.countP fun p => decide ((s.heldNow w p).count = (s.win w).fields.ratio.toNat) := by
  rw [State.fullContexts, List.length_filterMap_eq_countP]
  refine List.countP_congr fun p hp => ?_
  obtain ⟨i, hi, -⟩ := State.sampled_now hone hn hroom hp
  simp only [Option.isSome_iff_exists, State.reached_sampled_iff hone hn hroom hp, decide_eq_true_eq]
  exact ⟨fun ⟨_, _, hcount⟩ => hcount, fun hcount => ⟨i, hi, hcount⟩⟩

/-- A touched slot whose count reaches N: its context completes full, not partial and without flush_mark (R43, R44). -/
theorem State.filled_of_full (hw : s.Unwatched w) (h : l.Pairwise fun p q => p.1 < q.1) {p : Nat × BitVec 48}
    (hp : p ∈ l) (hcount : (s.heldNow w p).count = (s.win w).fields.ratio.toNat) :
    ∃ i ∈ (s.sampled w l).fullContexts w l, (s.filled w l).ctx i = .committing (completedOf (s.win w).fields
      (s.heldNow w p) false (formResult (s.applying w p.1) (s.win w).fields (s.heldNow w p) false) false) := by
  obtain ⟨-, -, hself⟩ := State.filled_spec hw h
  obtain ⟨i, hl, hi⟩ := State.sampled_now hone hn hroom hp
  have hmem : i ∈ (s.sampled w l).fullContexts w l :=
    List.mem_filterMap.2 ⟨p, hp, (State.reached_sampled_iff hone hn hroom hp).2 ⟨hl, hcount⟩⟩
  exact ⟨i, hmem, hself i hmem _ hi⟩

/-- A touched slot whose count does not reach N keeps its OPEN context (R42, R43). -/
theorem State.filled_of_below (hw : s.Unwatched w) (h : l.Pairwise fun p q => p.1 < q.1) {p : Nat × BitVec 48}
    (hp : p ∈ l) (hcount : (s.heldNow w p).count ≠ (s.win w).fields.ratio.toNat) :
    ∃ i, (s.filled w l).ctx i = .opened (s.heldNow w p) := by
  obtain ⟨-, hother, -⟩ := State.filled_spec hw h
  obtain ⟨i, hl, hi⟩ := State.sampled_now hone hn hroom hp
  refine ⟨i, (hother i fun hmem => ?_).trans hi⟩
  obtain ⟨q, hq, hreached⟩ := List.mem_filterMap.1 hmem
  have hslot : p.1 = q.1 := State.lookup_slot_inj hl (State.reached_eq_some_iff.1 hreached).1
  rw [← hslot] at hreached
  exact hcount ((State.reached_sampled_iff hone hn hroom hp).1 hreached).2

end

/-- A context in use whose key is not touched stays as it is (R42, R43). -/
theorem State.filled_ctx_untouched (hw : s.Unwatched w) (h : l.Pairwise fun p q => p.1 < q.1) {i : Fin 64}
    (hi : (s.ctx i).isFree = false) (hkey : ∀ p ∈ l, (s.ctx i).isKey w p.1 = false) :
    (s.filled w l).ctx i = s.ctx i := by
  obtain ⟨-, hother, -⟩ := State.filled_spec hw h
  have hsame := State.sampled_ctx_untouched hi hkey
  refine (hother i fun hmem => ?_).trans hsame
  obtain ⟨p, hp, hl, -⟩ := State.mem_fullContexts_iff.1 hmem
  obtain ⟨a, ha, haw, has⟩ := State.lookup_some hl
  have hopen := hkey p hp
  rw [← hsame, ha] at hopen
  simp [Context.isKey, haw, has] at hopen

/-- The contexts that complete full join the Commit List in ascending slot order (R43). -/
theorem State.sorted_filled (hw : s.Unwatched w) (h : l.Pairwise fun p q => p.1 < q.1) :
    ((s.sampled w l).fullContexts w l).Pairwise fun i j => ∀ a b, (s.filled w l).ctx i = .committing a →
      (s.filled w l).ctx j = .committing b → a.acc.slot < b.acc.slot := by
  obtain ⟨-, -, hself⟩ := State.filled_spec hw h
  refine (State.sorted_fullContexts h).imp_of_mem fun {i j} hi hj hlt a b ha hb => ?_
  obtain ⟨a', ha', -⟩ := State.fullContexts_open hi
  obtain ⟨b', hb', -⟩ := State.fullContexts_open hj
  cases ha.symm.trans (hself i hi a' ha')
  cases hb.symm.trans (hself j hj b' hb')
  exact hlt a' b' ha' hb'

/-- What an absorption with full completions leaves as it was (R42, R43, R86). -/
theorem State.filled_frame (hw : s.Unwatched w) (h : l.Pairwise fun p q => p.1 < q.1) :
    (s.filled w l).ig = s.ig ∧ (s.filled w l).win = (s.sampled w l).win ∧ (s.filled w l).rf = s.rf ∧
    (s.filled w l).evq = s.evq ∧ (s.filled w l).eg = s.eg ∧ (s.filled w l).ct = s.ct ∧ (s.filled w l).lm = s.lm ∧
    (s.filled w l).pa = s.pa ∧ (s.filled w l).mp = s.mp ∧
    (s.filled w l).ae.commitList = s.ae.commitList ++ (s.sampled w l).fullContexts w l := by
  obtain ⟨heq, -⟩ := State.filled_spec hw h
  generalize (s.filled w l).ae.pool = pool at heq
  rw [heq]
  simp only [State.sampled_frame, State.sampled_rf, State.sampled_lm, true_and, and_true]
  rfl

/-- When the head waits and KEEP discards none of the records that join an empty list, the completions end the event
(R43, R105, R144). -/
theorem State.afterPool_filled (hhead : HeadWaits s)
    (hstage : ∀ p rest, s.pa.stage = p :: rest → s.holdsContexts p.window = true) (hw : s.Unwatched w)
    (h : l.Pairwise fun p q => p.1 < q.1)
    (hkeep : s.ae.commitList = [] → (s.win w).fields.overrun = .replace ∨
      ∀ p ∈ l, (s.slotAt ((s.win w).fields.slotBase.toNat + p.1)).unread = false) :
    (s.filled w l).afterPool = s.filled w l := by
  obtain ⟨heq, hother, hself⟩ := State.filled_spec hw h
  have hserves := (s.sampled w l).completeAll_serves hw.sampled false false _ (State.nodup_fullContexts h)
    fun i hi => State.fullContexts_open hi
  have hlist := congrArg (fun t : State => t.ae.commitList) heq
  have hfields (v : Fin 16) : ((s.filled w l).win v).fields = (s.win v).fields :=
    State.fields_of_shape (by simp [State.filled]) v
  have hct : (s.filled w l).ct = s.ct := by simp [State.filled]
  have hpa : (s.filled w l).pa = s.pa := by simp [State.filled]
  have hwaits : HeadWaits (s.filled w l) := by
    by_cases hne : s.ae.commitList = []
    · cases hfull : (s.sampled w l).fullContexts w l with
      | nil => exact .of_nil (by rw [hlist, hne, hfull]; rfl)
      | cons i rest =>
        have hi : i ∈ (s.sampled w l).fullContexts w l := hfull ▸ List.mem_cons_self
        obtain ⟨p, hp, hl, -⟩ := State.mem_fullContexts_iff.1 hi
        obtain ⟨a, ha, haw, has⟩ := State.lookup_some hl
        refine .of_head (rest := rest) (by rw [hlist, hne, hfull]; rfl) (hself i hi a ha) ?_
        rw [State.keepHit_congr hfields hct, State.keepHit_eq_false_iff]
        subst haw
        refine (hkeep hne).imp id fun hread => ?_
        have hp := hread p hp
        rwa [← has] at hp
    · refine hhead.of_behind hne hlist (fun i hi => ?_) hfields hct
      have hcommitting : ((s.sampled w l).ctx i).isCommitting = true := by rwa [s.sampled_ctx_committing w l hi]
      exact ((s.sampled w l).ctx_completeAll_committing _ _ _ hcommitting).trans (s.sampled_ctx_committing w l hi)
  rw [State.afterPool, State.keepRun_of_headWaits hwaits]
  refine State.finishDrain_of_not_ends (State.drainEnds_of_holds fun p rest hp => ?_)
  have hholds : (s.filled w l).holdsContexts p.window = (s.sampled w l).holdsContexts p.window :=
    State.holdsContexts_congr fun i => (hserves i).2 _
  rw [hholds]
  exact s.sampled_holds w p.window l (hstage p rest (by rwa [hpa] at hp))

end

/-- Settles O34: the shape of a sample write, and the absorption without and with full completions. -/
theorem sampleWriteAbsorbed : Obligations.SampleWriteAbsorbed := by
  unfold Obligations.SampleWriteAbsorbed
  refine ⟨fun s r w hlaw hd hk hsize hblock => fun hin hbase hlength hbe => ?_, ?_⟩
  · exact State.sort_of_capture hlaw hd hk (Request.violation_none hsize hblock) hsize hin hbase hlength hbe
  intro s addr size data be d hr r x k hlaw hone hhead hstage hi hl hsort hstate
  let v := s.accepted r (.ready .ok []) .opened
  let samples := samplesOf x.format r.data d.slot k
  have hdraining : (s.win d.window).state.isDraining = false ∨ s.needed d.window d.slot k = 0 :=
    hstate.imp (fun h => by rw [h.1]; rfl) And.right
  have hneeded : s.needed d.window d.slot k ≤ s.freeCount := by
    rcases hstate with ⟨-, h⟩ | ⟨-, h⟩ <;> omega
  have hexec : exec (.ingressRequest .write addr size data be) s = .next (v.absorb d.window samples).afterPool :=
    exec_ingress_absorbed rfl hr hlaw hi hl hsort (State.disposition_of_room hdraining hneeded)
  have hsorted := sorted_samplesOf x.format r.data d.slot k
  have hnodup := nodup_samplesOf x.format r.data d.slot k
  have hroom : samples.countP (fun p => (v.lookup d.window p.1).isNone) ≤ v.freeCount :=
    (State.countP_samplesOf v ..).trans_le hneeded
  have hwaits : HeadWaits v := hhead.of_fields rfl (fun _ _ => rfl) (fun _ => rfl) rfl
  have hself : (v.sampled d.window samples).win d.window = { s.win d.window with
      counters := { (s.win d.window).counters with
        absorbed := (s.win d.window).counters.absorbed + BitVec.ofNat 32 k } } := by
    rw [State.sampled_win, if_pos rfl, length_samplesOf]
    rfl
  have hother (u : Fin 16) (hu : u ≠ d.window) : (v.sampled d.window samples).win u = s.win u := by
    rw [State.sampled_win, if_neg (Ne.symm hu)]
    rfl
  refine ⟨fun hratio hbelow => ?_, fun hunwatched hkeep => ?_⟩
  · obtain ⟨hend, -⟩ := State.afterPool_absorb_of_waits hwaits hstage hratio hbelow x.format r.data
    obtain ⟨hig, hct, heg, hpa, hevq, hmp, hlist, htimer, -⟩ := State.sampled_frame v d.window samples
    refine ⟨v.sampled d.window samples, by rw [hexec, hend], hig, ?_, fun u hu => ?_, State.sampled_rf, hevq, heg, hct,
      State.sampled_lm, hpa, hmp, hlist, htimer, State.sampled_flush, fun j hj => ?_, fun i hfree hkey => ?_⟩
    · rw [hself]
    · exact hother u hu
    · obtain ⟨i, -, hi⟩ := State.sampled_now (s := v) hone hnodup hroom (mem_samplesOf hj)
      refine ⟨i, _, hi, rfl, rfl, rfl, fun i' b hb hbw hbs => ?_, fun hnone => ?_⟩
      · have hheld : v.held d.window (d.slot + j) = b :=
          State.held_of_lookup (s := v) (hbw ▸ hbs ▸ State.lookup_of_open hone hb) hb
        simp only [State.heldNow, hheld, and_self]
      · have hheld := State.held_of_none (s := v) hnone
        simp [State.heldNow, hheld]
    · exact State.sampled_ctx_untouched (s := v) hfree (forall_samplesOf hkey)
  · intro before now target
    have hend : (v.absorb d.window samples).afterPool = v.filled d.window samples := by
      rw [State.absorb_eq_filled hnodup]
      exact State.afterPool_filled hwaits hstage hunwatched hsorted fun hnil =>
        (hkeep hnil).imp id fun hread => forall_samplesOf hread
    obtain ⟨hig, hwin, hrf, hevq, heg, hct, hlm, hpa, hmp, hlist⟩ :=
      State.filled_frame (s := v) (w := d.window) hunwatched hsorted
    refine ⟨v.filled d.window samples, (v.sampled d.window samples).fullContexts d.window samples, by rw [hexec, hend],
      hig, by rw [hwin, hself], fun u hu => by rw [hwin, hother u hu], hrf, hevq, heg, hct, hlm, hpa, hmp, hlist,
      State.nodup_fullContexts hsorted, State.sorted_filled (s := v) hunwatched hsorted, ?_, fun j hj hfull => ?_,
      fun j hj hbelow => ?_, fun i hfree hkey => ?_⟩
    · exact (State.length_fullContexts (s := v) hone hnodup hroom).trans List.countP_map
    · exact State.filled_of_full (s := v) hone hnodup hroom hunwatched hsorted (mem_samplesOf hj) hfull
    · exact State.filled_of_below (s := v) hone hnodup hroom hunwatched hsorted (mem_samplesOf hj) hbelow
    · exact State.filled_ctx_untouched (s := v) hunwatched hsorted hfree (forall_samplesOf hkey)

end Sys2Proof.Machine
